-- ==== Sys2Proof/Word.lean ====
section
/-!
DEFINITION. The word types of the machine (00_scope.md rules R6 and R9) and the fixed banks of
registers that are addressed by a number of `n` bits.
-/
namespace Sys2Proof

/-- A long, 32 bits (R9). -/
abbrev Word := BitVec 32

/-- A byte, 8 bits (R9). -/
abbrev Byte := BitVec 8

/-- A COG register number, 9 bits (R21). -/
abbrev RegAddr := BitVec 9

/-- A HUB address, 17 bits (R80). -/
abbrev HubAddress := BitVec 17

/-- `2 ^ n` like things, numbered by `n` bits. -/
abbrev Bank (n : Nat) (α : Type) := Vector α (2 ^ n)

/-- The thing with number `i`. -/
def Bank.rd {n : Nat} {α : Type} (v : Bank n α) (i : BitVec n) : α := v[i.toNat]'i.isLt

/-- The bank with the thing numbered `i` replaced. -/
def Bank.wr {n : Nat} {α : Type} (v : Bank n α) (i : BitVec n) (x : α) : Bank n α :=
  v.set i.toNat x i.isLt

end Sys2Proof
end

