-- ==== Sys2Proof/Machine/Types.lean ====
section
/-!
DEFINITION. The groups of registers that State is made of: one COG with its tasks, pointers,
QUADs and devices (10_state.md rules R20 to R48), a HUB lock (R50), and the values the
environment shows the chip (R39, R42, R53; 49_peripherals.md rule R610). State itself is in
Sys2Proof/Machine/State.lean; these types stand before it because Config names them.
-/
namespace Sys2Proof.Machine

/-- Number of a COG, 0..7 (R6). -/
abbrev CogId := BitVec 3

/-- Number of a task of a COG, 0..3 (R26). -/
abbrev TaskId := BitVec 2

/-- A pending delayed branch of a task (48_branch_wait.md rule R561): where it goes and how
many more instruction cycles pass before it may. -/
structure Delayed where
  target : RegAddr
  rem    : Nat
  deriving DecidableEq, Repr, Inhabited

/-- One of the four (Z, C, PC) sets of a COG (R25, R26), with the two pieces of pipeline state
of rule R48. -/
structure TaskRegs where
  /-- flag Z -/
  z       : Bool
  /-- flag C -/
  c       : Bool
  /-- program counter, 9 bits -/
  pc      : RegAddr
  /-- `Flush[t]`, 0..3: cycles in which the task's slots still execute nothing -/
  flush   : Nat
  /-- `DB[t]`: the pending delayed branches, oldest first -/
  delayed : List Delayed
  deriving DecidableEq, Repr, Inhabited

/-- A written value of the TASK register that has not come into force yet (R362, D17). -/
structure TaskWrite where
  value : Word
  rem   : Nat
  deriving DecidableEq, Repr, Inhabited

/-- The three hidden registers of INDA or INDB (R31). -/
structure IndPtr where
  ptr : RegAddr
  bot : RegAddr
  top : RegAddr
  deriving DecidableEq, Repr, Inhabited

/-- A counter module, CTRA or CTRB (R42, R688). SINx and COSx are values of the environment. -/
structure Counter where
  /-- CTRx, the mode -/
  mode    : Word
  /-- WAVx, the wave mode -/
  wave    : Word
  /-- FRQx -/
  frq     : Word
  /-- PHSx, while the counter does not run -/
  phs     : Word
  /-- CtrRunning[x] of rule R688: a SETCTRx has been executed -/
  running : Bool
  deriving DecidableEq, Repr, Inhabited

/-- The video generator's registers (R44), the pair WAITVID last handed to it (R659), and whether it
is in use, so that reads of stack RAM are draws (R100; notes/assumptions/57.md). -/
structure Video where
  vid   : Word
  vidy  : Word
  vidi  : Word
  vidq  : Word
  handD : Word
  handS : Word
  /-- a SETVID or WAITVID has been executed -/
  inUse : Bool
  deriving DecidableEq, Repr, Inhabited

/-- The texture mapper's registers (R45). -/
structure Pixel where
  pix  : Word
  pixu : Word
  pixv : Word
  pixz : Word
  pixr : Word
  pixg : Word
  pixb : Word
  pixa : Word
  deriving DecidableEq, Repr, Inhabited

/-- The repeat unit of a COG (R47, R454): passes still to run (0: inactive), the block's length
and first address, and the task it repeats for, which executed REPS or REPD (notes/assumptions/38.md). -/
structure Rep where
  count : Word
  len   : BitVec 5
  start : RegAddr
  task  : TaskId
  deriving DecidableEq, Repr, Inhabited

/-- Result registers of the multiplier, the divider, the square rooter and the CORDIC unit (R41). The
spec records them as state and refuses every instruction that would touch them, so nothing reads or
writes them; 32 bits each is PRESUMED (notes/assumptions/51.md). -/
structure MathRegs where
  mull : Word
  mulh : Word
  divq : Word
  divr : Word
  sqrt : Word
  qx   : Word
  qy   : Word
  qz   : Word
  deriving DecidableEq, Repr, Inhabited

/-- Run state of a COG (R52). A loading COG has still to read the longs for the registers `left`, out
of the $1F8 longs at `base` (R95). A stuck COG has tried to write ROM under the `RomWritePolicy` that says
so, and executes no more until it is started again (R87, R241). -/
inductive RunState where
  | idle
  | loading (left : List RegAddr) (base : HubAddress)
  | running
  | stuck
  deriving DecidableEq, Repr, Inhabited

/-- What an instruction that waits in stage 4 took along from stage 3 (R130, R595): Dv, Sv, and, for a
WAITCNT, whether it is the high half of CNT that it waits for (R596). -/
structure Held where
  d    : Word
  s    : Word
  half : Option Bool
  deriving DecidableEq, Repr, Inhabited

/-- All the state of one COG (R20). -/
structure Cog where
  run       : RunState
  /-- COG register RAM, 512 longs (R21) -/
  ram       : Bank 9 Word
  /-- stack RAM, 256 longs (R30) -/
  stk       : Bank 8 Word
  /-- the four tasks (R26) -/
  tasks     : Bank 2 TaskRegs
  /-- the TASK register: sixteen time slots of two bits (R27) -/
  task      : Word
  /-- values written to TASK that are still on their way (D17) -/
  taskWrites : List TaskWrite
  /-- the task whose instruction executes in this cycle (the model's own) -/
  cur       : TaskId
  /-- the COG's instruction is waiting (R595; the model's own view of the stall) -/
  stalled   : Bool
  /-- the operands of the instruction that is waiting, once its wait has begun (R130, R595) -/
  held      : Option Held
  ptra      : HubAddress
  ptrb      : HubAddress
  spa       : BitVec 8
  spb       : BitVec 8
  inda      : IndPtr
  indb      : IndPtr
  /-- QUAD0..QUAD3 (R32) -/
  quads     : Bank 2 Word
  /-- QUAD base address; hidden when at least $1F8 (R33) -/
  qbase     : RegAddr
  /-- read cache: valid bit and tag (R34) -/
  qvalid    : Bool
  qtag      : BitVec 13
  /-- instruction slots since the last fill of the QUADs, counted up to 5 (R35, R780) -/
  fillAge   : Nat
  /-- instruction slots since the QUADs were last mapped at a new base, counted up to 5 -/
  mapAge    : Nat
  acca      : BitVec 64
  accb      : BitVec 64
  accaPhase : Bool
  accbPhase : Bool
  /-- CNT as the last GETCNT latched it (R38) -/
  cntl      : BitVec 64
  cntPhase  : Bool
  math      : MathRegs
  /-- COGSEL, written by SETCOG (R40) -/
  cogsel    : BitVec 4
  ctra      : Counter
  ctrb      : Counter
  /-- CFGDAC0..3 (R43) -/
  cfgdac    : Bank 2 (BitVec 2)
  /-- data values of DAC 0..3 (R43) -/
  dacval    : Bank 2 (BitVec 18)
  video     : Video
  pixel     : Pixel
  /-- XFR (R46); SETXFR is refused, so nothing writes it -/
  xfr       : BitVec 6
  /-- SER (R46) -/
  ser       : Word
  /-- the serial port's transmit long: the last one sent (R46, R633) -/
  serTx     : Word
  /-- MAP (R46); SETMAP is refused, so nothing writes it -/
  map       : BitVec 6
  /-- XCH (R46) -/
  xch       : Word
  /-- PORTSEL (R46) -/
  portsel   : BitVec 2
  /-- PORA..PORD (R46) -/
  por       : Bank 2 (BitVec 2)
  /-- output latches OUT[p] of this COG, bit p for pin p (R53) -/
  out       : BitVec 128
  /-- direction bits DIR[p] of this COG (R53) -/
  dir       : BitVec 128
  /-- SETSKIP pattern and the task it applies to (R47, R453) -/
  skip      : Word
  skipTask  : TaskId
  rep       : Rep
  /-- NOPs that a NOPX still has to execute (R47, R452) -/
  nops      : Word
  /-- register written in this instruction slot, and in the one and two slots before (R780) -/
  wrote0    : Option RegAddr
  wrote1    : Option RegAddr
  wrote2    : Option RegAddr
  deriving DecidableEq, Repr, Inhabited

/-- A HUB lock (R50). -/
structure Lock where
  state : Bool
  taken : Bool
  deriving DecidableEq, Repr, Inhabited

/-- What the environment and the free-running devices show in one step (R53, R610 class 2):
the model constrains none of it and draws all of it anew for every step. -/
structure Inputs where
  /-- PinIn(p), bit p for pin p (R615) -/
  pinIn      : BitVec 128
  /-- LFSR of the executing COG (R39) -/
  lfsr       : Word
  /-- SerTxReady, SerRxReady, SerRxLong (R633, R634) -/
  serTxReady : Bool
  serRxReady : Bool
  serRxLong  : Word
  /-- VidReady (R659) -/
  vidReady   : Bool
  /-- PixAddress (R670) -/
  pixAddress : Word
  /-- SINA, COSA, SINB, COSB (R42, R692) -/
  sina       : Word
  cosa       : Word
  sinb       : Word
  cosb       : Word
  /-- PHSA and PHSB of a running counter (R688) -/
  phsa       : Word
  phsb       : Word
  /-- PHSA, PHSB has wrapped (R686, R706) -/
  wrapa      : Bool
  wrapb      : Bool
  /-- the question PASSCNT asks is answered yes (R370) -/
  timePassed : Bool
  /-- the question JP asks of the pins is answered yes (R370) -/
  pinsSay    : Bool
  /-- what a read of stack RAM gives while the video generator is in use (R100) -/
  stkDraw    : Word
  deriving DecidableEq, Repr, Inhabited

end Sys2Proof.Machine
end

