-- ==== Sys2Proof/Config.lean ====
section
/-!
DEFINITION. What the spec leaves open as a VALUE: constants without a body, so that no proof can
know what they are (93_implementation_defined.md treatment "any value"; 92_eei_decisions.md
D25, D26, D30, D31). The step applies them to its own counter `State.tick`, so that each draw
is fresh. The open FUNCTIONS that the spec gives a default for are in
Sys2Proof/Machine/Params.lean.
-/
namespace Sys2Proof.Config

open Sys2Proof.Machine

/-- What the environment shows in step number `tick` (R610 class 2; notes/assumptions/7.md). -/
opaque inputs : Nat → Inputs

/-- Clocks that pass in step `tick` (R791; D31). -/
opaque moreClocks : Nat → Word

/-- Which of the COGs that can step goes next (R90: the order of different COGs is not fixed). -/
opaque cogPick : Nat → Nat

/-- Which of the longs that a COG start has still to read is read in step `tick` (R95: their order is
not given). -/
opaque loadPick : Nat → Nat

/-- ROM bytes the spec does not list, $00020..$00E7F (R49, R81). -/
opaque romByte : Nat → Byte

/-- A 32-bit result the spec leaves open (U7, U21). -/
opaque freeWord : Nat → Word

/-- A flag the spec leaves open (U7). -/
opaque freeFlag : Nat → Bool

/-- Repeat count and block length where REPS or REPD is given 0, which rule R454 does not
describe. -/
opaque freeRepCount : Nat → Word
opaque freeRepLength : Nat → BitVec 5

/-- State of a COG at COG start as far as rule R54 leaves it unspecified. -/
opaque cogAtStart : Nat → Cog

/-- State of the chip after a CLKSET hardware reset, which leaves everything but CLK and the run
states unspecified (R761). -/
opaque cogAfterReset : Nat → CogId → Cog
opaque cellsAfterReset : Nat → List (Nat × Byte)
opaque lockAfterReset : Nat → BitVec 3 → Lock
opaque cntAfterReset : Nat → BitVec 64
opaque pinCfgAfterReset : Nat → BitVec 7 → BitVec 13

/-- SeussF and SeussR (R434, R435; D25): an action of the cyclic group of order 32 on the longs,
of which nothing else is known. Its generator is SeussF, so the two laws of the spec hold
whatever the action is: 32 steps forward are the identity, and one step back undoes one step
forward. -/
opaque seussAction : Multiplicative (ZMod 32) →* Equiv.Perm Word

end Sys2Proof.Config
end

