-- ==== Sys2Proof/Syntax.lean ====
section
/-!
DEFINITION. The instructions of the machine as syntax: one constructor of `Instr` for each row of
spec/opcode_table.json, with the operands its row leaves free (30_encoding.md rules R121 to
R142). The names of the fields are the spec's: `z`, `c`, `r` are the effect bits, `cond` is CCCC.
A field is there only where the row leaves its bits free and the word is not refused for it.
-/
namespace Sys2Proof

/-- The condition field CCCC of an instruction that is conditional (R124). An instruction that
references INDA or INDB is unconditional (R131); its syntax holds 15 here and the modifiers in
the references. -/
abbrev Cond := BitVec 4

/-- The indirect registers INDA ($1F6) and INDB ($1F7) (R23). -/
inductive Ind where
  | a
  | b
  deriving DecidableEq, Repr, Inhabited

/-- A register operand: a register number, or a reference through INDA or INDB with its 2-bit
modifier (R131): 00 INDx, 01 INDx++, 10 INDx--, 11 ++INDx. -/
inductive Reg where
  | dir (a : RegAddr)
  | ind (x : Ind) (m : BitVec 2)
  deriving DecidableEq, Repr, Inhabited

/-- The S operand (R127): a register, or the 9-bit immediate of an instruction with I = 1. -/
inductive Src where
  | reg (x : Reg)
  | imm (n : BitVec 9)
  deriving DecidableEq, Repr, Inhabited

/-- The operand of the D/#n class (R128): a register, or the D field itself when bit 23 is 1. -/
inductive DImm where
  | reg (x : Reg)
  | imm (n : BitVec 9)
  deriving DecidableEq, Repr, Inhabited

/-- A PTR expression `S U P NNNNNN` (R134). -/
structure PtrExpr where
  /-- 0 for PTRA, 1 for PTRB -/
  useB  : Bool
  /-- update the pointer -/
  upd   : Bool
  /-- use the pointer before the index is added -/
  post  : Bool
  index : BitVec 6
  deriving DecidableEq, Repr, Inhabited

/-- The address operand of a HUB memory instruction (R171): a register, or a PTR expression. -/
inductive HubOperand where
  | reg (x : Reg)
  | ptr (e : PtrExpr)
  deriving DecidableEq, Repr, Inhabited

/-- WRBYTE, WRWORD, WRLONG (R140). -/
structure HubWrOps where
  cond : Cond
  d : Reg
  addr : HubOperand
  deriving DecidableEq, Repr, Inhabited

/-- RDxxxx and RDxxxxC (R140). -/
structure HubRdOps where
  z : Bool
  cond : Cond
  d : Reg
  addr : HubOperand
  deriving DecidableEq, Repr, Inhabited

/-- COGINIT D,S: both registers (R241). -/
structure CogIniOps where
  z : Bool
  c : Bool
  r : Bool
  cond : Cond
  d : Reg
  s : Reg
  deriving DecidableEq, Repr, Inhabited

/-- no operand and no effect bit. -/
structure PlainOps where
  cond : Cond
  deriving DecidableEq, Repr, Inhabited

/-- POLxxx WC (R370): no operand, a C effect bit. -/
structure PollOps where
  c : Bool
  cond : Cond
  deriving DecidableEq, Repr, Inhabited

/-- selector class with a free R bit that has no effect (R402). -/
structure SelOps where
  r : Bool
  cond : Cond
  deriving DecidableEq, Repr, Inhabited

/-- no operand, Z and C effect bits (R306, R334). -/
structure NoDOps where
  z : Bool
  c : Bool
  cond : Cond
  deriving DecidableEq, Repr, Inhabited

/-- D register, no effect bit. -/
structure D0Ops where
  cond : Cond
  d : Reg
  deriving DecidableEq, Repr, Inhabited

/-- D register, C effect bit. -/
structure DCOps where
  c : Bool
  cond : Cond
  d : Reg
  deriving DecidableEq, Repr, Inhabited

/-- D register, Z effect bit. -/
structure DZOps where
  z : Bool
  cond : Cond
  d : Reg
  deriving DecidableEq, Repr, Inhabited

/-- D register, Z and C effect bits, result always written. -/
structure DZCOps where
  z : Bool
  c : Bool
  cond : Cond
  d : Reg
  deriving DecidableEq, Repr, Inhabited

/-- D register, Z and R effect bits. -/
structure DZROps where
  z : Bool
  r : Bool
  cond : Cond
  d : Reg
  deriving DecidableEq, Repr, Inhabited

/-- D register, all effect bits. -/
structure DZCROps where
  z : Bool
  c : Bool
  r : Bool
  cond : Cond
  d : Reg
  deriving DecidableEq, Repr, Inhabited

/-- D.b (R136). -/
structure DBitOps where
  z : Bool
  r : Bool
  cond : Cond
  d : Reg
  b : BitVec 5
  deriving DecidableEq, Repr, Inhabited

/-- D/#n without effect bits (R128). -/
structure DnOps where
  cond : Cond
  d : DImm
  deriving DecidableEq, Repr, Inhabited

/-- D/#n with Z and C effect bits (R442, R620). -/
structure DnZCOps where
  z : Bool
  c : Bool
  cond : Cond
  d : DImm
  deriving DecidableEq, Repr, Inhabited

/-- JMPTASK D/#n,#mask (R137). -/
structure DnMaskOps where
  cond : Cond
  d : DImm
  mask : BitVec 4
  deriving DecidableEq, Repr, Inhabited

/-- WRQUAD, RDQUAD, RDQUADC: register or PTR expression in the D field (R171). -/
structure QuadOps where
  cond : Cond
  addr : HubOperand
  deriving DecidableEq, Repr, Inhabited

/-- SYNCTRx, CAPCTRx: bit 23 and the D field are there and ignored (R686). -/
structure IgnOps where
  n : Bool
  cond : Cond
  d : BitVec 9
  deriving DecidableEq, Repr, Inhabited

/-- SETINDA, SETINDB: one immediate, no condition (R135). -/
structure IndOneOps where
  n : BitVec 9
  deriving DecidableEq, Repr, Inhabited

/-- SETINDS: the immediates for INDB (D field) and INDA (S field) (R135). -/
structure IndTwoOps where
  b : BitVec 9
  a : BitVec 9
  deriving DecidableEq, Repr, Inhabited

/-- FIXINDx #terminal,#initial (R135). -/
structure FixOps where
  terminal : BitVec 9
  initial : BitVec 9
  deriving DecidableEq, Repr, Inhabited

/-- D,S without effect bits. -/
structure DSOps where
  cond : Cond
  d : Reg
  s : Src
  deriving DecidableEq, Repr, Inhabited

/-- MUL, SCL: Z effect bit, result always written (R141). -/
structure MulOps where
  z : Bool
  cond : Cond
  d : Reg
  s : Src
  deriving DecidableEq, Repr, Inhabited

/-- D,S with all effect bits. -/
structure AluOps where
  z : Bool
  c : Bool
  r : Bool
  cond : Cond
  d : Reg
  s : Src
  deriving DecidableEq, Repr, Inhabited

/-- D,S with Z and R effect bits. -/
structure AluZOps where
  z : Bool
  r : Bool
  cond : Cond
  d : Reg
  s : Src
  deriving DecidableEq, Repr, Inhabited

/-- D,S with an R effect bit: IJxx, DJxx (R568). -/
structure DSROps where
  r : Bool
  cond : Cond
  d : Reg
  s : Src
  deriving DecidableEq, Repr, Inhabited

/-- WAITCNT: `high` is bit 24, which selects CNT[63:32] (R596). -/
structure WaitCOps where
  high : Bool
  r : Bool
  cond : Cond
  d : Reg
  s : Src
  deriving DecidableEq, Repr, Inhabited

/-- REPS, REPD D/#n,#i (R454). -/
structure RepeatOps where
  cond : Cond
  d : DImm
  len : BitVec 5
  deriving DecidableEq, Repr, Inhabited

/-- JMP, JMPD (R566). -/
structure JumpOps where
  cond : Cond
  s : Src
  deriving DecidableEq, Repr, Inhabited

/-- CALL, CALLD #label: the register of the label_ret symbol and the target (R567). -/
structure CallOps where
  cond : Cond
  d : Reg
  target : BitVec 9
  deriving DecidableEq, Repr, Inhabited

/-- The instruction set: one constructor for each row of spec/opcode_table.json, in its order. -/
inductive Instr where
  /-- WRBYTE: `000000 000 i cccc ddddddddd sssssssss` (R180) -/
  | wrbyte (o : HubWrOps)
  /-- RDBYTE: `000000 z01 i cccc ddddddddd sssssssss` (R181) -/
  | rdbyte (o : HubRdOps)
  /-- RDBYTEC: `000000 z11 i cccc ddddddddd sssssssss` (R182) -/
  | rdbytec (o : HubRdOps)
  /-- WRWORD: `000001 000 i cccc ddddddddd sssssssss` (R183) -/
  | wrword (o : HubWrOps)
  /-- RDWORD: `000001 z01 i cccc ddddddddd sssssssss` (R184) -/
  | rdword (o : HubRdOps)
  /-- RDWORDC: `000001 z11 i cccc ddddddddd sssssssss` (R185) -/
  | rdwordc (o : HubRdOps)
  /-- WRLONG: `000010 000 i cccc ddddddddd sssssssss` (R186) -/
  | wrlong (o : HubWrOps)
  /-- RDLONG: `000010 z01 i cccc ddddddddd sssssssss` (R187) -/
  | rdlong (o : HubRdOps)
  /-- RDLONGC: `000010 z11 i cccc ddddddddd sssssssss` (R188) -/
  | rdlongc (o : HubRdOps)
  /-- COGINIT: `000011 zcr 0 cccc ddddddddd sssssssss` (R241) -/
  | coginit (o : CogIniOps)
  /-- CLKSET: `000011 000 1 cccc ddddddddd 000000000` (R245) -/
  | clkset (o : D0Ops)
  /-- COGID: `000011 001 1 cccc ddddddddd 000000001` (R246) -/
  | cogid (o : D0Ops)
  /-- COGSTOP: `000011 000 1 cccc ddddddddd 000000011` (R247) -/
  | cogstop (o : D0Ops)
  /-- LOCKNEW: `000011 zc1 1 cccc ddddddddd 000000100` (R248) -/
  | locknew (o : DZCOps)
  /-- LOCKRET: `000011 000 1 cccc ddddddddd 000000101` (R249) -/
  | lockret (o : D0Ops)
  /-- LOCKSET: `000011 0c0 1 cccc ddddddddd 000000110` (R250) -/
  | lockset (o : DCOps)
  /-- LOCKCLR: `000011 0c0 1 cccc ddddddddd 000000111` (R251) -/
  | lockclr (o : DCOps)
  /-- CACHEX: `000011 000 1 cccc 000000000 000001000` (R220) -/
  | cachex (o : PlainOps)
  /-- CLRACCA: `000011 zcr 1 cccc 000000001 000001000` (R402) -/
  | clracca (o : SelOps)
  /-- CLRACCB: `000011 zcr 1 cccc 000000010 000001000` (R403) -/
  | clraccb (o : SelOps)
  /-- CLRACCS: `000011 zcr 1 cccc 000000011 000001000` (R404) -/
  | clraccs (o : SelOps)
  /-- FITACCA: `000011 zcr 1 cccc 000000101 000001000` (R405) -/
  | fitacca (o : SelOps)
  /-- FITACCB: `000011 zcr 1 cccc 000000110 000001000` (R406) -/
  | fitaccb (o : SelOps)
  /-- FITACCS: `000011 zcr 1 cccc 000000111 000001000` (R407) -/
  | fitaccs (o : SelOps)
  /-- SNDSER: `000011 zc0 1 cccc ddddddddd 000001001` (R633) -/
  | sndser (o : DCOps)
  /-- RCVSER: `000011 zc1 1 cccc ddddddddd 000001001` (R634) -/
  | rcvser (o : DZCOps)
  /-- PUSHZC: `000011 zcr 1 cccc ddddddddd 000001010` (R440) -/
  | pushzc (o : DZCROps)
  /-- POPZC: `000011 zcr 1 cccc ddddddddd 000001011` (R441) -/
  | popzc (o : DZCROps)
  /-- SUBCNT: `000011 zcr 1 cccc ddddddddd 000001100` (R392) -/
  | subcnt (o : DZROps)
  /-- GETCNT: `000011 zcr 1 cccc ddddddddd 000001101` (R391) -/
  | getcnt (o : DZROps)
  /-- GETACCA: `000011 zcr 1 cccc ddddddddd 000001110` (R408) -/
  | getacca (o : DZROps)
  /-- GETACCB: `000011 zcr 1 cccc ddddddddd 000001111` (R409) -/
  | getaccb (o : DZROps)
  /-- GETLFSR: `000011 zcr 1 cccc ddddddddd 000010000` (R393) -/
  | getlfsr (o : DZROps)
  /-- GETTOPS: `000011 z01 1 cccc ddddddddd 000010001` (R221) -/
  | gettops (o : DZOps)
  /-- GETPTRA: `000011 zcr 1 cccc ddddddddd 000010010` (R211) -/
  | getptra (o : DZCROps)
  /-- GETPTRB: `000011 zcr 1 cccc ddddddddd 000010011` (R212) -/
  | getptrb (o : DZCROps)
  /-- GETPIX: `000011 zcr 1 cccc ddddddddd 000010100` (R670) -/
  | getpix (o : DZROps)
  /-- CHKSPD: `000011 zc0 1 cccc 000000000 000010101` (R306) -/
  | chkspd (o : NoDOps)
  /-- GETSPD: `000011 zc1 1 cccc ddddddddd 000010101` (R307) -/
  | getspd (o : DZCOps)
  /-- CHKSPA: `000011 zc0 1 cccc 000000000 000010110` (R308) -/
  | chkspa (o : NoDOps)
  /-- GETSPA: `000011 zc1 1 cccc ddddddddd 000010110` (R309) -/
  | getspa (o : DZCOps)
  /-- CHKSPB: `000011 zc0 1 cccc 000000000 000010111` (R310) -/
  | chkspb (o : NoDOps)
  /-- GETSPB: `000011 zc1 1 cccc ddddddddd 000010111` (R311) -/
  | getspb (o : DZCOps)
  /-- POPAR: `000011 zc1 1 cccc ddddddddd 000011000` (R320) -/
  | popar (o : DZCOps)
  /-- POPBR: `000011 zc1 1 cccc ddddddddd 000011001` (R321) -/
  | popbr (o : DZCOps)
  /-- POPA: `000011 zc1 1 cccc ddddddddd 000011010` (R322) -/
  | popa (o : DZCOps)
  /-- POPB: `000011 zc1 1 cccc ddddddddd 000011011` (R323) -/
  | popb (o : DZCOps)
  /-- RETA: `000011 zc0 1 cccc 000000000 000011100` (R334) -/
  | reta (o : NoDOps)
  /-- RETB: `000011 zc0 1 cccc 000000000 000011101` (R335) -/
  | retb (o : NoDOps)
  /-- RETAD: `000011 zc0 1 cccc 000000000 000011110` (R336) -/
  | retad (o : NoDOps)
  /-- RETBD: `000011 zc0 1 cccc 000000000 000011111` (R337) -/
  | retbd (o : NoDOps)
  /-- DECOD5: `000011 zcr 1 cccc ddddddddd 000100000` (R420) -/
  | decod5 (o : DZROps)
  /-- DECOD4: `000011 zcr 1 cccc ddddddddd 000100001` (R421) -/
  | decod4 (o : DZROps)
  /-- DECOD3: `000011 zcr 1 cccc ddddddddd 000100010` (R422) -/
  | decod3 (o : DZROps)
  /-- DECOD2: `000011 zcr 1 cccc ddddddddd 000100011` (R423) -/
  | decod2 (o : DZROps)
  /-- BLMASK: `000011 zcr 1 cccc ddddddddd 000100100` (R424) -/
  | blmask (o : DZROps)
  /-- NOT: `000011 zcr 1 cccc ddddddddd 000100101` (R425) -/
  | not (o : DZROps)
  /-- ONECNT: `000011 zcr 1 cccc ddddddddd 000100110` (R426) -/
  | onecnt (o : DZROps)
  /-- ZERCNT: `000011 zcr 1 cccc ddddddddd 000100111` (R427) -/
  | zercnt (o : DZROps)
  /-- INCPAT: `000011 zcr 1 cccc ddddddddd 000101000` (R428) -/
  | incpat (o : DZROps)
  /-- DECPAT: `000011 zcr 1 cccc ddddddddd 000101001` (R429) -/
  | decpat (o : DZROps)
  /-- BINGRY: `000011 zcr 1 cccc ddddddddd 000101010` (R430) -/
  | bingry (o : DZROps)
  /-- GRYBIN: `000011 zcr 1 cccc ddddddddd 000101011` (R431) -/
  | grybin (o : DZROps)
  /-- MERGEW: `000011 zcr 1 cccc ddddddddd 000101100` (R432) -/
  | mergew (o : DZROps)
  /-- SPLITW: `000011 zcr 1 cccc ddddddddd 000101101` (R433) -/
  | splitw (o : DZROps)
  /-- SEUSSF: `000011 zcr 1 cccc ddddddddd 000101110` (R434) -/
  | seussf (o : DZROps)
  /-- SEUSSR: `000011 zcr 1 cccc ddddddddd 000101111` (R435) -/
  | seussr (o : DZROps)
  /-- GETPHSA: `000011 zcr 1 cccc ddddddddd 000111000` (R690) -/
  | getphsa (o : DZROps)
  /-- GETPHZA: `000011 zcr 1 cccc ddddddddd 000111001` (R691) -/
  | getphza (o : DZROps)
  /-- GETCOSA: `000011 zcr 1 cccc ddddddddd 000111010` (R692) -/
  | getcosa (o : DZROps)
  /-- GETSINA: `000011 zcr 1 cccc ddddddddd 000111011` (R693) -/
  | getsina (o : DZROps)
  /-- GETPHSB: `000011 zcr 1 cccc ddddddddd 000111100` (R694) -/
  | getphsb (o : DZROps)
  /-- GETPHZB: `000011 zcr 1 cccc ddddddddd 000111101` (R695) -/
  | getphzb (o : DZROps)
  /-- GETCOSB: `000011 zcr 1 cccc ddddddddd 000111110` (R696) -/
  | getcosb (o : DZROps)
  /-- GETSINB: `000011 zcr 1 cccc ddddddddd 000111111` (R697) -/
  | getsinb (o : DZROps)
  /-- JMPTASK: `000011 00n 1 cccc ddddddddd 01001mmmm` (R363) -/
  | jmptask (o : DnMaskOps)
  /-- NOPX: `000011 zcn 1 cccc ddddddddd 010100000` (R452) -/
  | nopx (o : DnOps)
  /-- SETZC: `000011 zcn 1 cccc ddddddddd 010100001` (R442) -/
  | setzc (o : DnZCOps)
  /-- SETSPA: `000011 00n 1 cccc ddddddddd 010100010` (R300) -/
  | setspa (o : DnOps)
  /-- SETSPB: `000011 00n 1 cccc ddddddddd 010100011` (R301) -/
  | setspb (o : DnOps)
  /-- ADDSPA: `000011 00n 1 cccc ddddddddd 010100100` (R302) -/
  | addspa (o : DnOps)
  /-- ADDSPB: `000011 00n 1 cccc ddddddddd 010100101` (R303) -/
  | addspb (o : DnOps)
  /-- SUBSPA: `000011 00n 1 cccc ddddddddd 010100110` (R304) -/
  | subspa (o : DnOps)
  /-- SUBSPB: `000011 00n 1 cccc ddddddddd 010100111` (R305) -/
  | subspb (o : DnOps)
  /-- PUSHAR: `000011 00n 1 cccc ddddddddd 010101000` (R314) -/
  | pushar (o : DnOps)
  /-- PUSHBR: `000011 00n 1 cccc ddddddddd 010101001` (R315) -/
  | pushbr (o : DnOps)
  /-- PUSHA: `000011 00n 1 cccc ddddddddd 010101010` (R312) -/
  | pusha (o : DnOps)
  /-- PUSHB: `000011 00n 1 cccc ddddddddd 010101011` (R313) -/
  | pushb (o : DnOps)
  /-- CALLA: `000011 00n 1 cccc ddddddddd 010101100` (R330) -/
  | calla (o : DnOps)
  /-- CALLB: `000011 00n 1 cccc ddddddddd 010101101` (R331) -/
  | callb (o : DnOps)
  /-- CALLAD: `000011 00n 1 cccc ddddddddd 010101110` (R332) -/
  | callad (o : DnOps)
  /-- CALLBD: `000011 00n 1 cccc ddddddddd 010101111` (R333) -/
  | callbd (o : DnOps)
  /-- WRQUAD: `000011 00n 1 cccc ddddddddd 010110000` (R190) -/
  | wrquad (o : QuadOps)
  /-- RDQUAD: `000011 00n 1 cccc ddddddddd 010110001` (R191) -/
  | rdquad (o : QuadOps)
  /-- RDQUADC: `000011 01n 1 cccc ddddddddd 010110001` (R192) -/
  | rdquadc (o : QuadOps)
  /-- SETPTRA: `000011 00n 1 cccc ddddddddd 010110010` (R213) -/
  | setptra (o : DnOps)
  /-- SETPTRB: `000011 00n 1 cccc ddddddddd 010110011` (R214) -/
  | setptrb (o : DnOps)
  /-- ADDPTRA: `000011 00n 1 cccc ddddddddd 010110100` (R215) -/
  | addptra (o : DnOps)
  /-- ADDPTRB: `000011 00n 1 cccc ddddddddd 010110101` (R216) -/
  | addptrb (o : DnOps)
  /-- SUBPTRA: `000011 00n 1 cccc ddddddddd 010110110` (R217) -/
  | subptra (o : DnOps)
  /-- SUBPTRB: `000011 00n 1 cccc ddddddddd 010110111` (R218) -/
  | subptrb (o : DnOps)
  /-- SETPIX: `000011 zcn 1 cccc ddddddddd 010111000` (R671) -/
  | setpix (o : DnOps)
  /-- SETPIXU: `000011 zcn 1 cccc ddddddddd 010111001` (R672) -/
  | setpixu (o : DnOps)
  /-- SETPIXV: `000011 zcn 1 cccc ddddddddd 010111010` (R673) -/
  | setpixv (o : DnOps)
  /-- SETPIXZ: `000011 zcn 1 cccc ddddddddd 010111011` (R674) -/
  | setpixz (o : DnOps)
  /-- SETPIXA: `000011 zcn 1 cccc ddddddddd 010111100` (R678) -/
  | setpixa (o : DnOps)
  /-- SETPIXR: `000011 zcn 1 cccc ddddddddd 010111101` (R675) -/
  | setpixr (o : DnOps)
  /-- SETPIXG: `000011 zcn 1 cccc ddddddddd 010111110` (R676) -/
  | setpixg (o : DnOps)
  /-- SETPIXB: `000011 zcn 1 cccc ddddddddd 010111111` (R677) -/
  | setpixb (o : DnOps)
  /-- SETTASK: `000011 00n 1 cccc ddddddddd 011001011` (R362) -/
  | settask (o : DnOps)
  /-- CFGDAC0: `000011 zcn 1 cccc ddddddddd 011001100` (R661) -/
  | cfgdac0 (o : DnOps)
  /-- CFGDAC1: `000011 zcn 1 cccc ddddddddd 011001101` (R662) -/
  | cfgdac1 (o : DnOps)
  /-- CFGDAC2: `000011 zcn 1 cccc ddddddddd 011001110` (R663) -/
  | cfgdac2 (o : DnOps)
  /-- CFGDAC3: `000011 zcn 1 cccc ddddddddd 011001111` (R664) -/
  | cfgdac3 (o : DnOps)
  /-- SETDAC0: `000011 zcn 1 cccc ddddddddd 011010000` (R665) -/
  | setdac0 (o : DnOps)
  /-- SETDAC1: `000011 zcn 1 cccc ddddddddd 011010001` (R666) -/
  | setdac1 (o : DnOps)
  /-- SETDAC2: `000011 zcn 1 cccc ddddddddd 011010010` (R667) -/
  | setdac2 (o : DnOps)
  /-- SETDAC3: `000011 zcn 1 cccc ddddddddd 011010011` (R668) -/
  | setdac3 (o : DnOps)
  /-- CFGDACS: `000011 zcn 1 cccc ddddddddd 011010100` (R669) -/
  | cfgdacs (o : DnOps)
  /-- SETDACS: `000011 zcn 1 cccc ddddddddd 011010101` (R679) -/
  | setdacs (o : DnOps)
  /-- GETP: `000011 zcn 1 cccc ddddddddd 011010110` (R620) -/
  | getp (o : DnZCOps)
  /-- GETPN: `000011 zcn 1 cccc ddddddddd 011010111` (R621) -/
  | getpn (o : DnZCOps)
  /-- OFFP: `000011 zcn 1 cccc ddddddddd 011011000` (R622) -/
  | offp (o : DnOps)
  /-- NOTP: `000011 zcn 1 cccc ddddddddd 011011001` (R623) -/
  | notp (o : DnOps)
  /-- CLRP: `000011 zcn 1 cccc ddddddddd 011011010` (R624) -/
  | clrp (o : DnOps)
  /-- SETP: `000011 zcn 1 cccc ddddddddd 011011011` (R625) -/
  | setp (o : DnOps)
  /-- SETPC: `000011 zcn 1 cccc ddddddddd 011011100` (R626) -/
  | setpc (o : DnOps)
  /-- SETPNC: `000011 zcn 1 cccc ddddddddd 011011101` (R627) -/
  | setpnc (o : DnOps)
  /-- SETPZ: `000011 zcn 1 cccc ddddddddd 011011110` (R628) -/
  | setpz (o : DnOps)
  /-- SETPNZ: `000011 zcn 1 cccc ddddddddd 011011111` (R629) -/
  | setpnz (o : DnOps)
  /-- SETMAP: `000011 zcn 1 cccc ddddddddd 011100001` (R640) -/
  | setmap (o : DnOps)
  /-- SETQUAD: `000011 00n 1 cccc ddddddddd 011100010` (R222) -/
  | setquad (o : DnOps)
  /-- SETQUAZ: `000011 01n 1 cccc ddddddddd 011100010` (R223) -/
  | setquaz (o : DnOps)
  /-- SETPORT: `000011 zcn 1 cccc ddddddddd 011100011` (R650) -/
  | setport (o : DnOps)
  /-- SETPORA: `000011 zcn 1 cccc ddddddddd 011100100` (R611) -/
  | setpora (o : DnOps)
  /-- SETPORB: `000011 zcn 1 cccc ddddddddd 011100101` (R612) -/
  | setporb (o : DnOps)
  /-- SETPORC: `000011 zcn 1 cccc ddddddddd 011100110` (R613) -/
  | setporc (o : DnOps)
  /-- SETPORD: `000011 zcn 1 cccc ddddddddd 011100111` (R614) -/
  | setpord (o : DnOps)
  /-- SETXCH: `000011 zcn 1 cccc ddddddddd 011101000` (R641) -/
  | setxch (o : DnOps)
  /-- SETXFR: `000011 zcn 1 cccc ddddddddd 011101001` (R631) -/
  | setxfr (o : DnOps)
  /-- SETSER: `000011 zcn 1 cccc ddddddddd 011101010` (R632) -/
  | setser (o : DnOps)
  /-- SETSKIP: `000011 zcn 1 cccc ddddddddd 011101011` (R453) -/
  | setskip (o : DnOps)
  /-- SETVID: `000011 zcn 1 cccc ddddddddd 011101100` (R655) -/
  | setvid (o : DnOps)
  /-- SETVIDY: `000011 zcn 1 cccc ddddddddd 011101101` (R656) -/
  | setvidy (o : DnOps)
  /-- SETVIDI: `000011 zcn 1 cccc ddddddddd 011101110` (R657) -/
  | setvidi (o : DnOps)
  /-- SETVIDQ: `000011 zcn 1 cccc ddddddddd 011101111` (R658) -/
  | setvidq (o : DnOps)
  /-- SETCTRA: `000011 zcn 1 cccc ddddddddd 011110000` (R680) -/
  | setctra (o : DnOps)
  /-- SETWAVA: `000011 zcn 1 cccc ddddddddd 011110001` (R681) -/
  | setwava (o : DnOps)
  /-- SETFRQA: `000011 zcn 1 cccc ddddddddd 011110010` (R682) -/
  | setfrqa (o : DnOps)
  /-- SETPHSA: `000011 zcn 1 cccc ddddddddd 011110011` (R683) -/
  | setphsa (o : DnOps)
  /-- ADDPHSA: `000011 zcn 1 cccc ddddddddd 011110100` (R684) -/
  | addphsa (o : DnOps)
  /-- SUBPHSA: `000011 zcn 1 cccc ddddddddd 011110101` (R685) -/
  | subphsa (o : DnOps)
  /-- SYNCTRA: `000011 zcn 1 cccc ddddddddd 011110110` (R686) -/
  | synctra (o : IgnOps)
  /-- CAPCTRA: `000011 zcn 1 cccc ddddddddd 011110111` (R687) -/
  | capctra (o : IgnOps)
  /-- SETCTRB: `000011 zcn 1 cccc ddddddddd 011111000` (R700) -/
  | setctrb (o : DnOps)
  /-- SETWAVB: `000011 zcn 1 cccc ddddddddd 011111001` (R701) -/
  | setwavb (o : DnOps)
  /-- SETFRQB: `000011 zcn 1 cccc ddddddddd 011111010` (R702) -/
  | setfrqb (o : DnOps)
  /-- SETPHSB: `000011 zcn 1 cccc ddddddddd 011111011` (R703) -/
  | setphsb (o : DnOps)
  /-- ADDPHSB: `000011 zcn 1 cccc ddddddddd 011111100` (R704) -/
  | addphsb (o : DnOps)
  /-- SUBPHSB: `000011 zcn 1 cccc ddddddddd 011111101` (R705) -/
  | subphsb (o : DnOps)
  /-- SYNCTRB: `000011 zcn 1 cccc ddddddddd 011111110` (R706) -/
  | synctrb (o : IgnOps)
  /-- CAPCTRB: `000011 zcn 1 cccc ddddddddd 011111111` (R707) -/
  | capctrb (o : IgnOps)
  /-- ISOB: `000011 zcr 1 cccc ddddddddd 1000bbbbb` (R443) -/
  | isob (o : DBitOps)
  /-- NOTB: `000011 zcr 1 cccc ddddddddd 1001bbbbb` (R444) -/
  | notb (o : DBitOps)
  /-- CLRB: `000011 zcr 1 cccc ddddddddd 1010bbbbb` (R445) -/
  | clrb (o : DBitOps)
  /-- SETB: `000011 zcr 1 cccc ddddddddd 1011bbbbb` (R446) -/
  | setb (o : DBitOps)
  /-- SETBC: `000011 zcr 1 cccc ddddddddd 1100bbbbb` (R447) -/
  | setbc (o : DBitOps)
  /-- SETBNC: `000011 zcr 1 cccc ddddddddd 1101bbbbb` (R448) -/
  | setbnc (o : DBitOps)
  /-- SETBZ: `000011 zcr 1 cccc ddddddddd 1110bbbbb` (R449) -/
  | setbz (o : DBitOps)
  /-- SETBNZ: `000011 zcr 1 cccc ddddddddd 1111bbbbb` (R450) -/
  | setbnz (o : DBitOps)
  /-- SETACCA: `000100 000 i cccc ddddddddd sssssssss` (R398) -/
  | setacca (o : DSOps)
  /-- SETACCB: `000100 010 i cccc ddddddddd sssssssss` (R399) -/
  | setaccb (o : DSOps)
  /-- MACA: `000100 100 i cccc ddddddddd sssssssss` (R396) -/
  | maca (o : DSOps)
  /-- MACB: `000100 110 i cccc ddddddddd sssssssss` (R397) -/
  | macb (o : DSOps)
  /-- MUL: `000100 zc1 i cccc ddddddddd sssssssss` (R394) -/
  | mul (o : MulOps)
  /-- SCL: `000101 zc1 i cccc ddddddddd sssssssss` (R395) -/
  | scl (o : MulOps)
  /-- SETINDA: `111000 000 0 0001 000000000 aaaaaaaaa` (R280) -/
  | setindaAddr (o : IndOneOps)
  /-- SETINDA: `111000 000 0 0011 000000000 aaaaaaaaa` (R281) -/
  | setindaDelta (o : IndOneOps)
  /-- SETINDB: `111000 000 0 0100 bbbbbbbbb 000000000` (R282) -/
  | setindbAddr (o : IndOneOps)
  /-- SETINDB: `111000 000 0 1100 bbbbbbbbb 000000000` (R283) -/
  | setindbDelta (o : IndOneOps)
  /-- SETINDS: `111000 000 0 0101 bbbbbbbbb aaaaaaaaa` (R284) -/
  | setindsAddrAddr (o : IndTwoOps)
  /-- SETINDS: `111000 000 0 0111 bbbbbbbbb aaaaaaaaa` (R285) -/
  | setindsAddrDelta (o : IndTwoOps)
  /-- SETINDS: `111000 000 0 1101 bbbbbbbbb aaaaaaaaa` (R286) -/
  | setindsDeltaAddr (o : IndTwoOps)
  /-- SETINDS: `111000 000 0 1111 bbbbbbbbb aaaaaaaaa` (R287) -/
  | setindsDeltaDelta (o : IndTwoOps)
  /-- FIXINDA: `111001 000 0 0001 ttttttttt iiiiiiiii` (R288) -/
  | fixinda (o : FixOps)
  /-- FIXINDB: `111001 000 0 0100 ttttttttt iiiiiiiii` (R289) -/
  | fixindb (o : FixOps)
  /-- FIXINDS: `111001 000 0 0101 ttttttttt iiiiiiiii` (R290) -/
  | fixinds (o : FixOps)
  /-- ENC: `000110 zcr i cccc ddddddddd sssssssss` (R472) -/
  | enc (o : AluZOps)
  /-- JMPRET: `000111 zcr i cccc ddddddddd sssssssss` (R563) -/
  | jmpret (o : AluZOps)
  /-- ROR: `001000 zcr i cccc ddddddddd sssssssss` (R473) -/
  | ror (o : AluOps)
  /-- ROL: `001001 zcr i cccc ddddddddd sssssssss` (R474) -/
  | rol (o : AluOps)
  /-- SHR: `001010 zcr i cccc ddddddddd sssssssss` (R475) -/
  | shr (o : AluOps)
  /-- SHL: `001011 zcr i cccc ddddddddd sssssssss` (R476) -/
  | shl (o : AluOps)
  /-- RCR: `001100 zcr i cccc ddddddddd sssssssss` (R477) -/
  | rcr (o : AluOps)
  /-- RCL: `001101 zcr i cccc ddddddddd sssssssss` (R478) -/
  | rcl (o : AluOps)
  /-- SAR: `001110 zcr i cccc ddddddddd sssssssss` (R479) -/
  | sar (o : AluOps)
  /-- REV: `001111 zcr i cccc ddddddddd sssssssss` (R480) -/
  | rev (o : AluOps)
  /-- MINS: `010000 zcr i cccc ddddddddd sssssssss` (R481) -/
  | mins (o : AluOps)
  /-- MAXS: `010001 zcr i cccc ddddddddd sssssssss` (R482) -/
  | maxs (o : AluOps)
  /-- MIN: `010010 zcr i cccc ddddddddd sssssssss` (R483) -/
  | min (o : AluOps)
  /-- MAX: `010011 zcr i cccc ddddddddd sssssssss` (R484) -/
  | max (o : AluOps)
  /-- MOVS: `010100 zcr i cccc ddddddddd sssssssss` (R485) -/
  | movs (o : AluZOps)
  /-- MOVD: `010101 zcr i cccc ddddddddd sssssssss` (R486) -/
  | movd (o : AluZOps)
  /-- MOVI: `010110 zcr i cccc ddddddddd sssssssss` (R487) -/
  | movi (o : AluZOps)
  /-- JMPRETD: `010111 zcr i cccc ddddddddd sssssssss` (R564) -/
  | jmpretd (o : AluZOps)
  /-- AND: `011000 zcr i cccc ddddddddd sssssssss` (R488) -/
  | and (o : AluOps)
  /-- ANDN: `011001 zcr i cccc ddddddddd sssssssss` (R489) -/
  | andn (o : AluOps)
  /-- OR: `011010 zcr i cccc ddddddddd sssssssss` (R490) -/
  | or (o : AluOps)
  /-- XOR: `011011 zcr i cccc ddddddddd sssssssss` (R491) -/
  | xor (o : AluOps)
  /-- MUXC: `011100 zcr i cccc ddddddddd sssssssss` (R492) -/
  | muxc (o : AluOps)
  /-- MUXNC: `011101 zcr i cccc ddddddddd sssssssss` (R493) -/
  | muxnc (o : AluOps)
  /-- MUXZ: `011110 zcr i cccc ddddddddd sssssssss` (R494) -/
  | muxz (o : AluOps)
  /-- MUXNZ: `011111 zcr i cccc ddddddddd sssssssss` (R495) -/
  | muxnz (o : AluOps)
  /-- ADD: `100000 zcr i cccc ddddddddd sssssssss` (R496) -/
  | add (o : AluOps)
  /-- SUB: `100001 zcr i cccc ddddddddd sssssssss` (R497) -/
  | sub (o : AluOps)
  /-- ADDABS: `100010 zcr i cccc ddddddddd sssssssss` (R498) -/
  | addabs (o : AluOps)
  /-- SUBABS: `100011 zcr i cccc ddddddddd sssssssss` (R499) -/
  | subabs (o : AluOps)
  /-- SUMC: `100100 zcr i cccc ddddddddd sssssssss` (R500) -/
  | sumc (o : AluOps)
  /-- SUMNC: `100101 zcr i cccc ddddddddd sssssssss` (R501) -/
  | sumnc (o : AluOps)
  /-- SUMZ: `100110 zcr i cccc ddddddddd sssssssss` (R502) -/
  | sumz (o : AluOps)
  /-- SUMNZ: `100111 zcr i cccc ddddddddd sssssssss` (R503) -/
  | sumnz (o : AluOps)
  /-- MOV: `101000 zcr i cccc ddddddddd sssssssss` (R504) -/
  | mov (o : AluOps)
  /-- NEG: `101001 zcr i cccc ddddddddd sssssssss` (R505) -/
  | neg (o : AluOps)
  /-- ABS: `101010 zcr i cccc ddddddddd sssssssss` (R506) -/
  | abs (o : AluOps)
  /-- ABSNEG: `101011 zcr i cccc ddddddddd sssssssss` (R507) -/
  | absneg (o : AluOps)
  /-- NEGC: `101100 zcr i cccc ddddddddd sssssssss` (R508) -/
  | negc (o : AluOps)
  /-- NEGNC: `101101 zcr i cccc ddddddddd sssssssss` (R509) -/
  | negnc (o : AluOps)
  /-- NEGZ: `101110 zcr i cccc ddddddddd sssssssss` (R510) -/
  | negz (o : AluOps)
  /-- NEGNZ: `101111 zcr i cccc ddddddddd sssssssss` (R511) -/
  | negnz (o : AluOps)
  /-- CMPS: `110000 zcr i cccc ddddddddd sssssssss` (R512) -/
  | cmps (o : AluOps)
  /-- CMPSX: `110001 zcr i cccc ddddddddd sssssssss` (R513) -/
  | cmpsx (o : AluOps)
  /-- ADDX: `110010 zcr i cccc ddddddddd sssssssss` (R514) -/
  | addx (o : AluOps)
  /-- SUBX: `110011 zcr i cccc ddddddddd sssssssss` (R515) -/
  | subx (o : AluOps)
  /-- ADDS: `110100 zcr i cccc ddddddddd sssssssss` (R516) -/
  | adds (o : AluOps)
  /-- SUBS: `110101 zcr i cccc ddddddddd sssssssss` (R517) -/
  | subs (o : AluOps)
  /-- ADDSX: `110110 zcr i cccc ddddddddd sssssssss` (R518) -/
  | addsx (o : AluOps)
  /-- SUBSX: `110111 zcr i cccc ddddddddd sssssssss` (R519) -/
  | subsx (o : AluOps)
  /-- SUBR: `111000 zcr i cccc ddddddddd sssssssss` (R520) -/
  | subr (o : AluOps)
  /-- CMPSUB: `111001 zcr i cccc ddddddddd sssssssss` (R521) -/
  | cmpsub (o : AluOps)
  /-- INCMOD: `111010 zcr i cccc ddddddddd sssssssss` (R522) -/
  | incmod (o : AluZOps)
  /-- DECMOD: `111011 zcr i cccc ddddddddd sssssssss` (R523) -/
  | decmod (o : AluZOps)
  /-- IJZ: `111100 00r i cccc ddddddddd sssssssss` (R570) -/
  | ijz (o : DSROps)
  /-- IJZD: `111100 01r i cccc ddddddddd sssssssss` (R571) -/
  | ijzd (o : DSROps)
  /-- IJNZ: `111100 10r i cccc ddddddddd sssssssss` (R572) -/
  | ijnz (o : DSROps)
  /-- IJNZD: `111100 11r i cccc ddddddddd sssssssss` (R573) -/
  | ijnzd (o : DSROps)
  /-- DJZ: `111101 00r i cccc ddddddddd sssssssss` (R576) -/
  | djz (o : DSROps)
  /-- DJZD: `111101 01r i cccc ddddddddd sssssssss` (R577) -/
  | djzd (o : DSROps)
  /-- DJNZ: `111101 10r i cccc ddddddddd sssssssss` (R578) -/
  | djnz (o : DSROps)
  /-- DJNZD: `111101 11r i cccc ddddddddd sssssssss` (R579) -/
  | djnzd (o : DSROps)
  /-- TJZ: `111110 000 i cccc ddddddddd sssssssss` (R582) -/
  | tjz (o : DSOps)
  /-- TJZD: `111110 010 i cccc ddddddddd sssssssss` (R583) -/
  | tjzd (o : DSOps)
  /-- TJNZ: `111110 100 i cccc ddddddddd sssssssss` (R584) -/
  | tjnz (o : DSOps)
  /-- TJNZD: `111110 110 i cccc ddddddddd sssssssss` (R585) -/
  | tjnzd (o : DSOps)
  /-- CFGPINS: `111110 101 i cccc ddddddddd sssssssss` (R651) -/
  | cfgpins (o : DSOps)
  /-- WAITVID: `111110 111 i cccc ddddddddd sssssssss` (R659) -/
  | waitvid (o : DSOps)
  /-- WAITCNT: `111111 0cr i cccc ddddddddd sssssssss` (R596) -/
  | waitcnt (o : WaitCOps)
  /-- WAITPEQ: `111111 1c0 i cccc ddddddddd sssssssss` (R597) -/
  | waitpeq (o : DSOps)
  /-- WAITPNE: `111111 1c1 i cccc ddddddddd sssssssss` (R598) -/
  | waitpne (o : DSOps)
  /-- SETINDA__older_form: `111110 001 i cccc ddddddddd sssssssss` (R590) -/
  | setindaOld (o : DSOps)
  /-- SETINDB__older_form: `111110 011 i cccc ddddddddd sssssssss` (R590) -/
  | setindbOld (o : DSOps)
  /-- SETCOG: `no encoding` (R242) -/
  | setcog (o : DnOps)
  /-- REPS: `no encoding` (R454) -/
  | reps (o : RepeatOps)
  /-- REPD: `no encoding` (R455) -/
  | repd (o : RepeatOps)
  /-- GETMULL: `no encoding` (R369) -/
  | getmull (o : DCOps)
  /-- GETMULH: `no encoding` (R369) -/
  | getmulh (o : DCOps)
  /-- GETDIVQ: `no encoding` (R369) -/
  | getdivq (o : DCOps)
  /-- GETDIVR: `no encoding` (R369) -/
  | getdivr (o : DCOps)
  /-- GETSQRT: `no encoding` (R369) -/
  | getsqrt (o : DCOps)
  /-- GETQX: `no encoding` (R369) -/
  | getqx (o : DCOps)
  /-- GETQY: `no encoding` (R369) -/
  | getqy (o : DCOps)
  /-- GETQZ: `no encoding` (R369) -/
  | getqz (o : DCOps)
  /-- POLCTRA: `no encoding` (R370) -/
  | polctra (o : PollOps)
  /-- POLCTRB: `no encoding` (R370) -/
  | polctrb (o : PollOps)
  /-- POLVID: `no encoding` (R370) -/
  | polvid (o : PollOps)
  /-- PASSCNT: `no encoding` (R599) -/
  | passcnt (o : D0Ops)
  /-- JP: `no encoding` (R599) -/
  | jp (o : DSOps)
  /-- JNP: `no encoding` (R599) -/
  | jnp (o : DSOps)
  /-- NOP: `000000 000 0 0000 000000000 000000000` (R565) -/
  | nop
  /-- JMP: `000111 000 i cccc 000000000 sssssssss` (R566) -/
  | jmp (o : JumpOps)
  /-- JMPD: `010111 000 i cccc 000000000 sssssssss` (R566) -/
  | jmpd (o : JumpOps)
  /-- CALL: `000111 001 1 cccc ddddddddd sssssssss` (R567) -/
  | call (o : CallOps)
  /-- RET: `000111 000 1 cccc 000000000 000000000` (R567) -/
  | ret (o : PlainOps)
  /-- CALLD: `010111 001 1 cccc ddddddddd sssssssss` (R567) -/
  | calld (o : CallOps)
  /-- RETD: `010111 000 1 cccc 000000000 000000000` (R567) -/
  | retd (o : PlainOps)
  deriving DecidableEq, Repr, Inhabited

end Sys2Proof
end

