-- ==== Sys2Proof/WellFormed.lean ====
section
/-!
DEFINITION. Which terms of `Instr` stand for instruction words: a register operand is not written
$1F6 or $1F7 (those are references, R131), an instruction with a reference is unconditional
(R131), an immediate D field is not $1F6 or $1F7 (R132, D16), and SUBR and CMPSUB without any
effect bit have an immediate S (R135).
-/
namespace Sys2Proof

/-- The register numbers of INDA and INDB (R23). -/
def isIndAddr (a : RegAddr) : Bool := a == 0x1F6#9 || a == 0x1F7#9

def Reg.wf : Reg → Bool
  | .dir a => !isIndAddr a
  | .ind _ _ => true

def Reg.isInd : Reg → Bool
  | .dir _ => false
  | .ind _ _ => true

def Src.wf : Src → Bool
  | .reg x => x.wf
  | .imm _ => true

def Src.isInd : Src → Bool
  | .reg x => x.isInd
  | .imm _ => false

def Src.isImm : Src → Bool
  | .reg _ => false
  | .imm _ => true

def DImm.wf : DImm → Bool
  | .reg x => x.wf
  | .imm n => !isIndAddr n

def DImm.isInd : DImm → Bool
  | .reg x => x.isInd
  | .imm _ => false

def HubOperand.wf : HubOperand → Bool
  | .reg x => x.wf
  | .ptr _ => true

def HubOperand.isInd : HubOperand → Bool
  | .reg x => x.isInd
  | .ptr _ => false

/-- CCCC of an instruction with a reference holds modifiers, not a condition (R131). -/
def condOk (cond : Cond) (ind : Bool) : Bool := !ind || cond == 15#4

/-- SUBR and CMPSUB: the words with ZCR = 000 and I = 0 are SETINDx and FIXINDx (R135). -/
def AluOps.hasEffectOrImm (o : AluOps) : Bool := o.z || o.c || o.r || o.s.isImm

def HubWrOps.wf (o : HubWrOps) : Bool := o.d.wf && o.addr.wf && condOk o.cond (o.d.isInd || o.addr.isInd)

def HubRdOps.wf (o : HubRdOps) : Bool := o.d.wf && o.addr.wf && condOk o.cond (o.d.isInd || o.addr.isInd)

def CogIniOps.wf (o : CogIniOps) : Bool := o.d.wf && o.s.wf && condOk o.cond (o.d.isInd || o.s.isInd)

def D0Ops.wf (o : D0Ops) : Bool := o.d.wf && condOk o.cond o.d.isInd

def DCOps.wf (o : DCOps) : Bool := o.d.wf && condOk o.cond o.d.isInd

def DZOps.wf (o : DZOps) : Bool := o.d.wf && condOk o.cond o.d.isInd

def DZCOps.wf (o : DZCOps) : Bool := o.d.wf && condOk o.cond o.d.isInd

def DZROps.wf (o : DZROps) : Bool := o.d.wf && condOk o.cond o.d.isInd

def DZCROps.wf (o : DZCROps) : Bool := o.d.wf && condOk o.cond o.d.isInd

def DBitOps.wf (o : DBitOps) : Bool := o.d.wf && condOk o.cond o.d.isInd

def DnOps.wf (o : DnOps) : Bool := o.d.wf && condOk o.cond o.d.isInd

def DnZCOps.wf (o : DnZCOps) : Bool := o.d.wf && condOk o.cond o.d.isInd

def DnMaskOps.wf (o : DnMaskOps) : Bool := o.d.wf && condOk o.cond o.d.isInd

def RepeatOps.wf (o : RepeatOps) : Bool := o.d.wf && condOk o.cond o.d.isInd

def DSOps.wf (o : DSOps) : Bool := o.d.wf && o.s.wf && condOk o.cond (o.d.isInd || o.s.isInd)

def MulOps.wf (o : MulOps) : Bool := o.d.wf && o.s.wf && condOk o.cond (o.d.isInd || o.s.isInd)

def AluOps.wf (o : AluOps) : Bool := o.d.wf && o.s.wf && condOk o.cond (o.d.isInd || o.s.isInd)

def AluZOps.wf (o : AluZOps) : Bool := o.d.wf && o.s.wf && condOk o.cond (o.d.isInd || o.s.isInd)

def DSROps.wf (o : DSROps) : Bool := o.d.wf && o.s.wf && condOk o.cond (o.d.isInd || o.s.isInd)

def WaitCOps.wf (o : WaitCOps) : Bool := o.d.wf && o.s.wf && condOk o.cond (o.d.isInd || o.s.isInd)

def QuadOps.wf (o : QuadOps) : Bool := o.addr.wf && condOk o.cond o.addr.isInd

def JumpOps.wf (o : JumpOps) : Bool := o.s.wf && condOk o.cond o.s.isInd

def CallOps.wf (o : CallOps) : Bool := o.d.wf && condOk o.cond o.d.isInd

/-- `i` stands for an instruction word. -/
def Instr.wellFormed : Instr → Bool
  | .wrbyte o => o.wf
  | .rdbyte o => o.wf
  | .rdbytec o => o.wf
  | .wrword o => o.wf
  | .rdword o => o.wf
  | .rdwordc o => o.wf
  | .wrlong o => o.wf
  | .rdlong o => o.wf
  | .rdlongc o => o.wf
  | .coginit o => o.wf
  | .clkset o => o.wf
  | .cogid o => o.wf
  | .cogstop o => o.wf
  | .locknew o => o.wf
  | .lockret o => o.wf
  | .lockset o => o.wf
  | .lockclr o => o.wf
  | .cachex _ => true
  | .clracca _ => true
  | .clraccb _ => true
  | .clraccs _ => true
  | .fitacca _ => true
  | .fitaccb _ => true
  | .fitaccs _ => true
  | .sndser o => o.wf
  | .rcvser o => o.wf
  | .pushzc o => o.wf
  | .popzc o => o.wf
  | .subcnt o => o.wf
  | .getcnt o => o.wf
  | .getacca o => o.wf
  | .getaccb o => o.wf
  | .getlfsr o => o.wf
  | .gettops o => o.wf
  | .getptra o => o.wf
  | .getptrb o => o.wf
  | .getpix o => o.wf
  | .chkspd _ => true
  | .getspd o => o.wf
  | .chkspa _ => true
  | .getspa o => o.wf
  | .chkspb _ => true
  | .getspb o => o.wf
  | .popar o => o.wf
  | .popbr o => o.wf
  | .popa o => o.wf
  | .popb o => o.wf
  | .reta _ => true
  | .retb _ => true
  | .retad _ => true
  | .retbd _ => true
  | .decod5 o => o.wf
  | .decod4 o => o.wf
  | .decod3 o => o.wf
  | .decod2 o => o.wf
  | .blmask o => o.wf
  | .not o => o.wf
  | .onecnt o => o.wf
  | .zercnt o => o.wf
  | .incpat o => o.wf
  | .decpat o => o.wf
  | .bingry o => o.wf
  | .grybin o => o.wf
  | .mergew o => o.wf
  | .splitw o => o.wf
  | .seussf o => o.wf
  | .seussr o => o.wf
  | .getphsa o => o.wf
  | .getphza o => o.wf
  | .getcosa o => o.wf
  | .getsina o => o.wf
  | .getphsb o => o.wf
  | .getphzb o => o.wf
  | .getcosb o => o.wf
  | .getsinb o => o.wf
  | .jmptask o => o.wf
  | .nopx o => o.wf
  | .setzc o => o.wf
  | .setspa o => o.wf
  | .setspb o => o.wf
  | .addspa o => o.wf
  | .addspb o => o.wf
  | .subspa o => o.wf
  | .subspb o => o.wf
  | .pushar o => o.wf
  | .pushbr o => o.wf
  | .pusha o => o.wf
  | .pushb o => o.wf
  | .calla o => o.wf
  | .callb o => o.wf
  | .callad o => o.wf
  | .callbd o => o.wf
  | .wrquad o => o.wf
  | .rdquad o => o.wf
  | .rdquadc o => o.wf
  | .setptra o => o.wf
  | .setptrb o => o.wf
  | .addptra o => o.wf
  | .addptrb o => o.wf
  | .subptra o => o.wf
  | .subptrb o => o.wf
  | .setpix o => o.wf
  | .setpixu o => o.wf
  | .setpixv o => o.wf
  | .setpixz o => o.wf
  | .setpixa o => o.wf
  | .setpixr o => o.wf
  | .setpixg o => o.wf
  | .setpixb o => o.wf
  | .settask o => o.wf
  | .cfgdac0 o => o.wf
  | .cfgdac1 o => o.wf
  | .cfgdac2 o => o.wf
  | .cfgdac3 o => o.wf
  | .setdac0 o => o.wf
  | .setdac1 o => o.wf
  | .setdac2 o => o.wf
  | .setdac3 o => o.wf
  | .cfgdacs o => o.wf
  | .setdacs o => o.wf
  | .getp o => o.wf
  | .getpn o => o.wf
  | .offp o => o.wf
  | .notp o => o.wf
  | .clrp o => o.wf
  | .setp o => o.wf
  | .setpc o => o.wf
  | .setpnc o => o.wf
  | .setpz o => o.wf
  | .setpnz o => o.wf
  | .setmap o => o.wf
  | .setquad o => o.wf
  | .setquaz o => o.wf
  | .setport o => o.wf
  | .setpora o => o.wf
  | .setporb o => o.wf
  | .setporc o => o.wf
  | .setpord o => o.wf
  | .setxch o => o.wf
  | .setxfr o => o.wf
  | .setser o => o.wf
  | .setskip o => o.wf
  | .setvid o => o.wf
  | .setvidy o => o.wf
  | .setvidi o => o.wf
  | .setvidq o => o.wf
  | .setctra o => o.wf
  | .setwava o => o.wf
  | .setfrqa o => o.wf
  | .setphsa o => o.wf
  | .addphsa o => o.wf
  | .subphsa o => o.wf
  | .synctra _ => true
  | .capctra _ => true
  | .setctrb o => o.wf
  | .setwavb o => o.wf
  | .setfrqb o => o.wf
  | .setphsb o => o.wf
  | .addphsb o => o.wf
  | .subphsb o => o.wf
  | .synctrb _ => true
  | .capctrb _ => true
  | .isob o => o.wf
  | .notb o => o.wf
  | .clrb o => o.wf
  | .setb o => o.wf
  | .setbc o => o.wf
  | .setbnc o => o.wf
  | .setbz o => o.wf
  | .setbnz o => o.wf
  | .setacca o => o.wf
  | .setaccb o => o.wf
  | .maca o => o.wf
  | .macb o => o.wf
  | .mul o => o.wf
  | .scl o => o.wf
  | .setindaAddr _ => true
  | .setindaDelta _ => true
  | .setindbAddr _ => true
  | .setindbDelta _ => true
  | .setindsAddrAddr _ => true
  | .setindsAddrDelta _ => true
  | .setindsDeltaAddr _ => true
  | .setindsDeltaDelta _ => true
  | .fixinda _ => true
  | .fixindb _ => true
  | .fixinds _ => true
  | .enc o => o.wf
  | .jmpret o => o.wf
  | .ror o => o.wf
  | .rol o => o.wf
  | .shr o => o.wf
  | .shl o => o.wf
  | .rcr o => o.wf
  | .rcl o => o.wf
  | .sar o => o.wf
  | .rev o => o.wf
  | .mins o => o.wf
  | .maxs o => o.wf
  | .min o => o.wf
  | .max o => o.wf
  | .movs o => o.wf
  | .movd o => o.wf
  | .movi o => o.wf
  | .jmpretd o => o.wf
  | .and o => o.wf
  | .andn o => o.wf
  | .or o => o.wf
  | .xor o => o.wf
  | .muxc o => o.wf
  | .muxnc o => o.wf
  | .muxz o => o.wf
  | .muxnz o => o.wf
  | .add o => o.wf
  | .sub o => o.wf
  | .addabs o => o.wf
  | .subabs o => o.wf
  | .sumc o => o.wf
  | .sumnc o => o.wf
  | .sumz o => o.wf
  | .sumnz o => o.wf
  | .mov o => o.wf
  | .neg o => o.wf
  | .abs o => o.wf
  | .absneg o => o.wf
  | .negc o => o.wf
  | .negnc o => o.wf
  | .negz o => o.wf
  | .negnz o => o.wf
  | .cmps o => o.wf
  | .cmpsx o => o.wf
  | .addx o => o.wf
  | .subx o => o.wf
  | .adds o => o.wf
  | .subs o => o.wf
  | .addsx o => o.wf
  | .subsx o => o.wf
  | .subr o => o.wf && o.hasEffectOrImm
  | .cmpsub o => o.wf && o.hasEffectOrImm
  | .incmod o => o.wf
  | .decmod o => o.wf
  | .ijz o => o.wf
  | .ijzd o => o.wf
  | .ijnz o => o.wf
  | .ijnzd o => o.wf
  | .djz o => o.wf
  | .djzd o => o.wf
  | .djnz o => o.wf
  | .djnzd o => o.wf
  | .tjz o => o.wf
  | .tjzd o => o.wf
  | .tjnz o => o.wf
  | .tjnzd o => o.wf
  | .cfgpins o => o.wf
  | .waitvid o => o.wf
  | .waitcnt o => o.wf
  | .waitpeq o => o.wf
  | .waitpne o => o.wf
  | .setindaOld o => o.wf
  | .setindbOld o => o.wf
  | .setcog o => o.wf
  | .reps o => o.wf
  | .repd o => o.wf
  | .getmull o => o.wf
  | .getmulh o => o.wf
  | .getdivq o => o.wf
  | .getdivr o => o.wf
  | .getsqrt o => o.wf
  | .getqx o => o.wf
  | .getqy o => o.wf
  | .getqz o => o.wf
  | .polctra _ => true
  | .polctrb _ => true
  | .polvid _ => true
  | .passcnt o => o.wf
  | .jp o => o.wf
  | .jnp o => o.wf
  | .nop => true
  | .jmp o => o.wf
  | .jmpd o => o.wf
  | .call o => o.wf
  | .ret _ => true
  | .calld o => o.wf
  | .retd _ => true

end Sys2Proof
end

