-- ==== Sys2Proof/Decode.lean ====
section
/-!
DEFINITION. The decoder (30_encoding.md rules R121 to R158) and, after it, the encoder written
from the same encoding rows. A word that no row takes is rejected with the reason.

`noncomputable` stands where a definition builds one of the last constructors of `Instr`: Lean's
compiled code cannot hold more than 245 constructors with operands, and the table has 284 rows.
The definitions are plain all the same, and the kernel evaluates them.
-/
namespace Sys2Proof

/-- The fields of an instruction long (R121). -/
structure Fields where
  op   : BitVec 6
  z    : Bool
  c    : Bool
  r    : Bool
  i    : Bool
  cond : BitVec 4
  d    : BitVec 9
  s    : BitVec 9
  deriving DecidableEq, Repr, Inhabited

/-- The fields of the long `w`, bit 31 first (R120, R121). -/
def fieldsOf (w : Word) : Fields where
  op   := w.extractLsb' 26 6
  z    := w.getLsbD 25
  c    := w.getLsbD 24
  r    := w.getLsbD 23
  i    := w.getLsbD 22
  cond := w.extractLsb' 18 4
  d    := w.extractLsb' 9 9
  s    := w.extractLsb' 0 9

/-- The long with the fields `f` (R121). -/
def wordOf (f : Fields) : Word :=
  f.op ++ BitVec.ofBool f.z ++ BitVec.ofBool f.c ++ BitVec.ofBool f.r ++ BitVec.ofBool f.i ++
    f.cond ++ f.d ++ f.s

/-- Why a word is no instruction. All of them are the spec's refusals of R150. -/
inductive DecodeError where
  /-- no row of the table has this pattern (R150 items 1 to 5) -/
  | noRow
  /-- a Z or C effect bit where the rule gives that flag no value (R150 item 6, D18) -/
  | effectBit
  /-- the half of CCCC that belongs to no reference is not 00 (R150 item 7, R131) -/
  | indirectHalf
  /-- a D/#n immediate of $1F6 or $1F7 (R150 item 7, D16) -/
  | immediateInd
  /-- the older SETINDA and SETINDB words (R150 item 8, R590) -/
  | olderForm
  deriving DecidableEq, Repr, Inhabited

/-- CCCC[3:2], the modifier of an indirect D, and CCCC[1:0], that of an indirect S (R131). -/
def condHigh (x : BitVec 4) : BitVec 2 := x.extractLsb' 2 2
def condLow (x : BitVec 4) : BitVec 2 := x.extractLsb' 0 2

/-- The operand that a register field `a` with modifier `m` is (R131). -/
def regOf (a : RegAddr) (m : BitVec 2) : Reg :=
  if a == 0x1F6#9 then .ind .a m else if a == 0x1F7#9 then .ind .b m else .dir a

def dOperand (f : Fields) : Reg := regOf f.d (condHigh f.cond)
def sOperand (f : Fields) : Reg := regOf f.s (condLow f.cond)

/-- S register or immediate (R127). -/
def srcOperand (f : Fields) : Src := if f.i then .imm f.s else .reg (sOperand f)

/-- PTR expression (R134). -/
def ptrOperand (x : BitVec 9) : PtrExpr where
  useB  := x.getLsbD 8
  upd   := x.getLsbD 7
  post  := x.getLsbD 6
  index := x.extractLsb' 0 6

def hubOperand (f : Fields) : HubOperand := if f.i then .ptr (ptrOperand f.s) else .reg (sOperand f)
def quadOperand (f : Fields) : HubOperand := if f.r then .ptr (ptrOperand f.d) else .reg (dOperand f)

/-- The condition: CCCC, or 15 where CCCC holds modifiers (R131). -/
def condOf (f : Fields) (dInd sInd : Bool) : Except DecodeError Cond :=
  if !(dInd || sInd) then .ok f.cond
  else if (!dInd && condHigh f.cond != 0#2) || (!sInd && condLow f.cond != 0#2) then
    .error .indirectHalf
  else .ok 15#4

/-- D/#n operand (R128, R132). -/
def dimmOperand (f : Fields) : Except DecodeError DImm :=
  if f.r then (if isIndAddr f.d then .error .immediateInd else .ok (.imm f.d))
  else .ok (.reg (dOperand f))

/-- `x` where `b` holds, otherwise the error. -/
def need (b : Bool) (e : DecodeError) (x : Except DecodeError Instr) : Except DecodeError Instr :=
  if b then x else .error e

def withD (f : Fields) (k : Cond → Reg → Instr) : Except DecodeError Instr :=
  (condOf f (dOperand f).isInd false).map fun cond => k cond (dOperand f)

def withDS (f : Fields) (k : Cond → Reg → Src → Instr) : Except DecodeError Instr :=
  (condOf f (dOperand f).isInd (srcOperand f).isInd).map fun cond =>
    k cond (dOperand f) (srcOperand f)

def withDD (f : Fields) (k : Cond → Reg → Reg → Instr) : Except DecodeError Instr :=
  (condOf f (dOperand f).isInd (sOperand f).isInd).map fun cond =>
    k cond (dOperand f) (sOperand f)

def withHub (f : Fields) (k : Cond → Reg → HubOperand → Instr) : Except DecodeError Instr :=
  (condOf f (dOperand f).isInd (hubOperand f).isInd).map fun cond =>
    k cond (dOperand f) (hubOperand f)

def withQuad (f : Fields) (k : Cond → HubOperand → Instr) : Except DecodeError Instr :=
  (condOf f (quadOperand f).isInd false).map fun cond => k cond (quadOperand f)

def withDImm (f : Fields) (k : Cond → DImm → Instr) : Except DecodeError Instr :=
  match dimmOperand f with
  | .error e => .error e
  | .ok d => (condOf f d.isInd false).map fun cond => k cond d

/-- Extended set, sub-opcodes $000..$00F (R138, R139). -/
def decodeExtControl (f : Fields) : Except DecodeError Instr :=
  match f.s with
  | 0x000#9 =>
      if !f.z && !f.c && !f.r then withD f fun cond d => .clkset ⟨cond, d⟩
      else .error .noRow
  | 0x001#9 =>
      if !f.z && !f.c && f.r then withD f fun cond d => .cogid ⟨cond, d⟩
      else .error .noRow
  | 0x003#9 =>
      if !f.z && !f.c && !f.r then withD f fun cond d => .cogstop ⟨cond, d⟩
      else .error .noRow
  | 0x004#9 =>
      if f.r then withD f fun cond d => .locknew ⟨f.z, f.c, cond, d⟩
      else .error .noRow
  | 0x005#9 =>
      if !f.z && !f.c && !f.r then withD f fun cond d => .lockret ⟨cond, d⟩
      else .error .noRow
  | 0x006#9 =>
      if !f.z && !f.r then withD f fun cond d => .lockset ⟨f.c, cond, d⟩
      else .error .noRow
  | 0x007#9 =>
      if !f.z && !f.r then withD f fun cond d => .lockclr ⟨f.c, cond, d⟩
      else .error .noRow
  | 0x008#9 =>
      if !f.z && !f.c && !f.r && f.d == 0#9 then .ok (.cachex ⟨f.cond⟩)
      else if f.d == 1#9 then need (!f.z && !f.c) .effectBit <| .ok (.clracca ⟨f.r, f.cond⟩)
      else if f.d == 2#9 then need (!f.z && !f.c) .effectBit <| .ok (.clraccb ⟨f.r, f.cond⟩)
      else if f.d == 3#9 then need (!f.z && !f.c) .effectBit <| .ok (.clraccs ⟨f.r, f.cond⟩)
      else if f.d == 5#9 then need (!f.z && !f.c) .effectBit <| .ok (.fitacca ⟨f.r, f.cond⟩)
      else if f.d == 6#9 then need (!f.z && !f.c) .effectBit <| .ok (.fitaccb ⟨f.r, f.cond⟩)
      else if f.d == 7#9 then need (!f.z && !f.c) .effectBit <| .ok (.fitaccs ⟨f.r, f.cond⟩)
      else .error .noRow
  | 0x009#9 =>
      if !f.r then need (!f.z) .effectBit <| withD f fun cond d => .sndser ⟨f.c, cond, d⟩
      else if f.r then withD f fun cond d => .rcvser ⟨f.z, f.c, cond, d⟩
      else .error .noRow
  | 0x00A#9 =>
      withD f fun cond d => .pushzc ⟨f.z, f.c, f.r, cond, d⟩
  | 0x00B#9 =>
      withD f fun cond d => .popzc ⟨f.z, f.c, f.r, cond, d⟩
  | 0x00C#9 =>
      need (!f.c) .effectBit <| withD f fun cond d => .subcnt ⟨f.z, f.r, cond, d⟩
  | 0x00D#9 =>
      need (!f.c) .effectBit <| withD f fun cond d => .getcnt ⟨f.z, f.r, cond, d⟩
  | 0x00E#9 =>
      need (!f.c) .effectBit <| withD f fun cond d => .getacca ⟨f.z, f.r, cond, d⟩
  | 0x00F#9 =>
      need (!f.c) .effectBit <| withD f fun cond d => .getaccb ⟨f.z, f.r, cond, d⟩
  | _ => .error .noRow

/-- Extended set, sub-opcodes $010..$01F (R138). -/
def decodeExtStack (f : Fields) : Except DecodeError Instr :=
  match f.s with
  | 0x010#9 =>
      need (!f.c) .effectBit <| withD f fun cond d => .getlfsr ⟨f.z, f.r, cond, d⟩
  | 0x011#9 =>
      if !f.c && f.r then withD f fun cond d => .gettops ⟨f.z, cond, d⟩
      else .error .noRow
  | 0x012#9 =>
      withD f fun cond d => .getptra ⟨f.z, f.c, f.r, cond, d⟩
  | 0x013#9 =>
      withD f fun cond d => .getptrb ⟨f.z, f.c, f.r, cond, d⟩
  | 0x014#9 =>
      need (!f.c) .effectBit <| withD f fun cond d => .getpix ⟨f.z, f.r, cond, d⟩
  | 0x015#9 =>
      if !f.r && f.d == 0#9 then .ok (.chkspd ⟨f.z, f.c, f.cond⟩)
      else if f.r then withD f fun cond d => .getspd ⟨f.z, f.c, cond, d⟩
      else .error .noRow
  | 0x016#9 =>
      if !f.r && f.d == 0#9 then .ok (.chkspa ⟨f.z, f.c, f.cond⟩)
      else if f.r then withD f fun cond d => .getspa ⟨f.z, f.c, cond, d⟩
      else .error .noRow
  | 0x017#9 =>
      if !f.r && f.d == 0#9 then .ok (.chkspb ⟨f.z, f.c, f.cond⟩)
      else if f.r then withD f fun cond d => .getspb ⟨f.z, f.c, cond, d⟩
      else .error .noRow
  | 0x018#9 =>
      if f.r then withD f fun cond d => .popar ⟨f.z, f.c, cond, d⟩
      else .error .noRow
  | 0x019#9 =>
      if f.r then withD f fun cond d => .popbr ⟨f.z, f.c, cond, d⟩
      else .error .noRow
  | 0x01A#9 =>
      if f.r then withD f fun cond d => .popa ⟨f.z, f.c, cond, d⟩
      else .error .noRow
  | 0x01B#9 =>
      if f.r then withD f fun cond d => .popb ⟨f.z, f.c, cond, d⟩
      else .error .noRow
  | 0x01C#9 =>
      if !f.r && f.d == 0#9 then .ok (.reta ⟨f.z, f.c, f.cond⟩)
      else .error .noRow
  | 0x01D#9 =>
      if !f.r && f.d == 0#9 then .ok (.retb ⟨f.z, f.c, f.cond⟩)
      else .error .noRow
  | 0x01E#9 =>
      if !f.r && f.d == 0#9 then .ok (.retad ⟨f.z, f.c, f.cond⟩)
      else .error .noRow
  | 0x01F#9 =>
      if !f.r && f.d == 0#9 then .ok (.retbd ⟨f.z, f.c, f.cond⟩)
      else .error .noRow
  | _ => .error .noRow

/-- Extended set, sub-opcodes $020..$03F (R138). -/
def decodeExtBits (f : Fields) : Except DecodeError Instr :=
  match f.s with
  | 0x020#9 =>
      need (!f.c) .effectBit <| withD f fun cond d => .decod5 ⟨f.z, f.r, cond, d⟩
  | 0x021#9 =>
      need (!f.c) .effectBit <| withD f fun cond d => .decod4 ⟨f.z, f.r, cond, d⟩
  | 0x022#9 =>
      need (!f.c) .effectBit <| withD f fun cond d => .decod3 ⟨f.z, f.r, cond, d⟩
  | 0x023#9 =>
      need (!f.c) .effectBit <| withD f fun cond d => .decod2 ⟨f.z, f.r, cond, d⟩
  | 0x024#9 =>
      need (!f.c) .effectBit <| withD f fun cond d => .blmask ⟨f.z, f.r, cond, d⟩
  | 0x025#9 =>
      need (!f.c) .effectBit <| withD f fun cond d => .not ⟨f.z, f.r, cond, d⟩
  | 0x026#9 =>
      need (!f.c) .effectBit <| withD f fun cond d => .onecnt ⟨f.z, f.r, cond, d⟩
  | 0x027#9 =>
      need (!f.c) .effectBit <| withD f fun cond d => .zercnt ⟨f.z, f.r, cond, d⟩
  | 0x028#9 =>
      need (!f.c) .effectBit <| withD f fun cond d => .incpat ⟨f.z, f.r, cond, d⟩
  | 0x029#9 =>
      need (!f.c) .effectBit <| withD f fun cond d => .decpat ⟨f.z, f.r, cond, d⟩
  | 0x02A#9 =>
      need (!f.c) .effectBit <| withD f fun cond d => .bingry ⟨f.z, f.r, cond, d⟩
  | 0x02B#9 =>
      need (!f.c) .effectBit <| withD f fun cond d => .grybin ⟨f.z, f.r, cond, d⟩
  | 0x02C#9 =>
      need (!f.c) .effectBit <| withD f fun cond d => .mergew ⟨f.z, f.r, cond, d⟩
  | 0x02D#9 =>
      need (!f.c) .effectBit <| withD f fun cond d => .splitw ⟨f.z, f.r, cond, d⟩
  | 0x02E#9 =>
      need (!f.c) .effectBit <| withD f fun cond d => .seussf ⟨f.z, f.r, cond, d⟩
  | 0x02F#9 =>
      need (!f.c) .effectBit <| withD f fun cond d => .seussr ⟨f.z, f.r, cond, d⟩
  | 0x038#9 =>
      need (!f.c) .effectBit <| withD f fun cond d => .getphsa ⟨f.z, f.r, cond, d⟩
  | 0x039#9 =>
      need (!f.c) .effectBit <| withD f fun cond d => .getphza ⟨f.z, f.r, cond, d⟩
  | 0x03A#9 =>
      need (!f.c) .effectBit <| withD f fun cond d => .getcosa ⟨f.z, f.r, cond, d⟩
  | 0x03B#9 =>
      need (!f.c) .effectBit <| withD f fun cond d => .getsina ⟨f.z, f.r, cond, d⟩
  | 0x03C#9 =>
      need (!f.c) .effectBit <| withD f fun cond d => .getphsb ⟨f.z, f.r, cond, d⟩
  | 0x03D#9 =>
      need (!f.c) .effectBit <| withD f fun cond d => .getphzb ⟨f.z, f.r, cond, d⟩
  | 0x03E#9 =>
      need (!f.c) .effectBit <| withD f fun cond d => .getcosb ⟨f.z, f.r, cond, d⟩
  | 0x03F#9 =>
      need (!f.c) .effectBit <| withD f fun cond d => .getsinb ⟨f.z, f.r, cond, d⟩
  | _ => .error .noRow

/-- Extended set, sub-opcodes $0A0..$0AF (R138). -/
def decodeExtPush (f : Fields) : Except DecodeError Instr :=
  match f.s with
  | 0x0A0#9 =>
      need (!f.z && !f.c) .effectBit <| withDImm f fun cond d => .nopx ⟨cond, d⟩
  | 0x0A1#9 =>
      withDImm f fun cond d => .setzc ⟨f.z, f.c, cond, d⟩
  | 0x0A2#9 =>
      if !f.z && !f.c then withDImm f fun cond d => .setspa ⟨cond, d⟩
      else .error .noRow
  | 0x0A3#9 =>
      if !f.z && !f.c then withDImm f fun cond d => .setspb ⟨cond, d⟩
      else .error .noRow
  | 0x0A4#9 =>
      if !f.z && !f.c then withDImm f fun cond d => .addspa ⟨cond, d⟩
      else .error .noRow
  | 0x0A5#9 =>
      if !f.z && !f.c then withDImm f fun cond d => .addspb ⟨cond, d⟩
      else .error .noRow
  | 0x0A6#9 =>
      if !f.z && !f.c then withDImm f fun cond d => .subspa ⟨cond, d⟩
      else .error .noRow
  | 0x0A7#9 =>
      if !f.z && !f.c then withDImm f fun cond d => .subspb ⟨cond, d⟩
      else .error .noRow
  | 0x0A8#9 =>
      if !f.z && !f.c then withDImm f fun cond d => .pushar ⟨cond, d⟩
      else .error .noRow
  | 0x0A9#9 =>
      if !f.z && !f.c then withDImm f fun cond d => .pushbr ⟨cond, d⟩
      else .error .noRow
  | 0x0AA#9 =>
      if !f.z && !f.c then withDImm f fun cond d => .pusha ⟨cond, d⟩
      else .error .noRow
  | 0x0AB#9 =>
      if !f.z && !f.c then withDImm f fun cond d => .pushb ⟨cond, d⟩
      else .error .noRow
  | 0x0AC#9 =>
      if !f.z && !f.c then withDImm f fun cond d => .calla ⟨cond, d⟩
      else .error .noRow
  | 0x0AD#9 =>
      if !f.z && !f.c then withDImm f fun cond d => .callb ⟨cond, d⟩
      else .error .noRow
  | 0x0AE#9 =>
      if !f.z && !f.c then withDImm f fun cond d => .callad ⟨cond, d⟩
      else .error .noRow
  | 0x0AF#9 =>
      if !f.z && !f.c then withDImm f fun cond d => .callbd ⟨cond, d⟩
      else .error .noRow
  | _ => .error .noRow

/-- Extended set, sub-opcodes $0B0..$0BF (R138). -/
def decodeExtPtr (f : Fields) : Except DecodeError Instr :=
  match f.s with
  | 0x0B0#9 =>
      if !f.z && !f.c then withQuad f fun cond addr => .wrquad ⟨cond, addr⟩
      else .error .noRow
  | 0x0B1#9 =>
      if !f.z && !f.c then withQuad f fun cond addr => .rdquad ⟨cond, addr⟩
      else if !f.z && f.c then withQuad f fun cond addr => .rdquadc ⟨cond, addr⟩
      else .error .noRow
  | 0x0B2#9 =>
      if !f.z && !f.c then withDImm f fun cond d => .setptra ⟨cond, d⟩
      else .error .noRow
  | 0x0B3#9 =>
      if !f.z && !f.c then withDImm f fun cond d => .setptrb ⟨cond, d⟩
      else .error .noRow
  | 0x0B4#9 =>
      if !f.z && !f.c then withDImm f fun cond d => .addptra ⟨cond, d⟩
      else .error .noRow
  | 0x0B5#9 =>
      if !f.z && !f.c then withDImm f fun cond d => .addptrb ⟨cond, d⟩
      else .error .noRow
  | 0x0B6#9 =>
      if !f.z && !f.c then withDImm f fun cond d => .subptra ⟨cond, d⟩
      else .error .noRow
  | 0x0B7#9 =>
      if !f.z && !f.c then withDImm f fun cond d => .subptrb ⟨cond, d⟩
      else .error .noRow
  | 0x0B8#9 =>
      need (!f.z && !f.c) .effectBit <| withDImm f fun cond d => .setpix ⟨cond, d⟩
  | 0x0B9#9 =>
      need (!f.z && !f.c) .effectBit <| withDImm f fun cond d => .setpixu ⟨cond, d⟩
  | 0x0BA#9 =>
      need (!f.z && !f.c) .effectBit <| withDImm f fun cond d => .setpixv ⟨cond, d⟩
  | 0x0BB#9 =>
      need (!f.z && !f.c) .effectBit <| withDImm f fun cond d => .setpixz ⟨cond, d⟩
  | 0x0BC#9 =>
      need (!f.z && !f.c) .effectBit <| withDImm f fun cond d => .setpixa ⟨cond, d⟩
  | 0x0BD#9 =>
      need (!f.z && !f.c) .effectBit <| withDImm f fun cond d => .setpixr ⟨cond, d⟩
  | 0x0BE#9 =>
      need (!f.z && !f.c) .effectBit <| withDImm f fun cond d => .setpixg ⟨cond, d⟩
  | 0x0BF#9 =>
      need (!f.z && !f.c) .effectBit <| withDImm f fun cond d => .setpixb ⟨cond, d⟩
  | _ => .error .noRow

/-- Extended set, sub-opcodes $0C0..$0DF (R138). -/
def decodeExtPins (f : Fields) : Except DecodeError Instr :=
  match f.s with
  | 0x0CB#9 =>
      if !f.z && !f.c then withDImm f fun cond d => .settask ⟨cond, d⟩
      else .error .noRow
  | 0x0CC#9 =>
      need (!f.z && !f.c) .effectBit <| withDImm f fun cond d => .cfgdac0 ⟨cond, d⟩
  | 0x0CD#9 =>
      need (!f.z && !f.c) .effectBit <| withDImm f fun cond d => .cfgdac1 ⟨cond, d⟩
  | 0x0CE#9 =>
      need (!f.z && !f.c) .effectBit <| withDImm f fun cond d => .cfgdac2 ⟨cond, d⟩
  | 0x0CF#9 =>
      need (!f.z && !f.c) .effectBit <| withDImm f fun cond d => .cfgdac3 ⟨cond, d⟩
  | 0x0D0#9 =>
      need (!f.z && !f.c) .effectBit <| withDImm f fun cond d => .setdac0 ⟨cond, d⟩
  | 0x0D1#9 =>
      need (!f.z && !f.c) .effectBit <| withDImm f fun cond d => .setdac1 ⟨cond, d⟩
  | 0x0D2#9 =>
      need (!f.z && !f.c) .effectBit <| withDImm f fun cond d => .setdac2 ⟨cond, d⟩
  | 0x0D3#9 =>
      need (!f.z && !f.c) .effectBit <| withDImm f fun cond d => .setdac3 ⟨cond, d⟩
  | 0x0D4#9 =>
      need (!f.z && !f.c) .effectBit <| withDImm f fun cond d => .cfgdacs ⟨cond, d⟩
  | 0x0D5#9 =>
      need (!f.z && !f.c) .effectBit <| withDImm f fun cond d => .setdacs ⟨cond, d⟩
  | 0x0D6#9 =>
      withDImm f fun cond d => .getp ⟨f.z, f.c, cond, d⟩
  | 0x0D7#9 =>
      withDImm f fun cond d => .getpn ⟨f.z, f.c, cond, d⟩
  | 0x0D8#9 =>
      need (!f.z && !f.c) .effectBit <| withDImm f fun cond d => .offp ⟨cond, d⟩
  | 0x0D9#9 =>
      need (!f.z && !f.c) .effectBit <| withDImm f fun cond d => .notp ⟨cond, d⟩
  | 0x0DA#9 =>
      need (!f.z && !f.c) .effectBit <| withDImm f fun cond d => .clrp ⟨cond, d⟩
  | 0x0DB#9 =>
      need (!f.z && !f.c) .effectBit <| withDImm f fun cond d => .setp ⟨cond, d⟩
  | 0x0DC#9 =>
      need (!f.z && !f.c) .effectBit <| withDImm f fun cond d => .setpc ⟨cond, d⟩
  | 0x0DD#9 =>
      need (!f.z && !f.c) .effectBit <| withDImm f fun cond d => .setpnc ⟨cond, d⟩
  | 0x0DE#9 =>
      need (!f.z && !f.c) .effectBit <| withDImm f fun cond d => .setpz ⟨cond, d⟩
  | 0x0DF#9 =>
      need (!f.z && !f.c) .effectBit <| withDImm f fun cond d => .setpnz ⟨cond, d⟩
  | _ => .error .noRow

/-- Extended set, sub-opcodes $0E0..$0FF (R138). -/
def decodeExtDevices (f : Fields) : Except DecodeError Instr :=
  match f.s with
  | 0x0E1#9 =>
      need (!f.z && !f.c) .effectBit <| withDImm f fun cond d => .setmap ⟨cond, d⟩
  | 0x0E2#9 =>
      if !f.z && !f.c then withDImm f fun cond d => .setquad ⟨cond, d⟩
      else if !f.z && f.c then withDImm f fun cond d => .setquaz ⟨cond, d⟩
      else .error .noRow
  | 0x0E3#9 =>
      need (!f.z && !f.c) .effectBit <| withDImm f fun cond d => .setport ⟨cond, d⟩
  | 0x0E4#9 =>
      need (!f.z && !f.c) .effectBit <| withDImm f fun cond d => .setpora ⟨cond, d⟩
  | 0x0E5#9 =>
      need (!f.z && !f.c) .effectBit <| withDImm f fun cond d => .setporb ⟨cond, d⟩
  | 0x0E6#9 =>
      need (!f.z && !f.c) .effectBit <| withDImm f fun cond d => .setporc ⟨cond, d⟩
  | 0x0E7#9 =>
      need (!f.z && !f.c) .effectBit <| withDImm f fun cond d => .setpord ⟨cond, d⟩
  | 0x0E8#9 =>
      need (!f.z && !f.c) .effectBit <| withDImm f fun cond d => .setxch ⟨cond, d⟩
  | 0x0E9#9 =>
      need (!f.z && !f.c) .effectBit <| withDImm f fun cond d => .setxfr ⟨cond, d⟩
  | 0x0EA#9 =>
      need (!f.z && !f.c) .effectBit <| withDImm f fun cond d => .setser ⟨cond, d⟩
  | 0x0EB#9 =>
      need (!f.z && !f.c) .effectBit <| withDImm f fun cond d => .setskip ⟨cond, d⟩
  | 0x0EC#9 =>
      need (!f.z && !f.c) .effectBit <| withDImm f fun cond d => .setvid ⟨cond, d⟩
  | 0x0ED#9 =>
      need (!f.z && !f.c) .effectBit <| withDImm f fun cond d => .setvidy ⟨cond, d⟩
  | 0x0EE#9 =>
      need (!f.z && !f.c) .effectBit <| withDImm f fun cond d => .setvidi ⟨cond, d⟩
  | 0x0EF#9 =>
      need (!f.z && !f.c) .effectBit <| withDImm f fun cond d => .setvidq ⟨cond, d⟩
  | 0x0F0#9 =>
      need (!f.z && !f.c) .effectBit <| withDImm f fun cond d => .setctra ⟨cond, d⟩
  | 0x0F1#9 =>
      need (!f.z && !f.c) .effectBit <| withDImm f fun cond d => .setwava ⟨cond, d⟩
  | 0x0F2#9 =>
      need (!f.z && !f.c) .effectBit <| withDImm f fun cond d => .setfrqa ⟨cond, d⟩
  | 0x0F3#9 =>
      need (!f.z && !f.c) .effectBit <| withDImm f fun cond d => .setphsa ⟨cond, d⟩
  | 0x0F4#9 =>
      need (!f.z && !f.c) .effectBit <| withDImm f fun cond d => .addphsa ⟨cond, d⟩
  | 0x0F5#9 =>
      need (!f.z && !f.c) .effectBit <| withDImm f fun cond d => .subphsa ⟨cond, d⟩
  | 0x0F6#9 =>
      need (!f.z && !f.c) .effectBit <| .ok (.synctra ⟨f.r, f.cond, f.d⟩)
  | 0x0F7#9 =>
      need (!f.z && !f.c) .effectBit <| .ok (.capctra ⟨f.r, f.cond, f.d⟩)
  | 0x0F8#9 =>
      need (!f.z && !f.c) .effectBit <| withDImm f fun cond d => .setctrb ⟨cond, d⟩
  | 0x0F9#9 =>
      need (!f.z && !f.c) .effectBit <| withDImm f fun cond d => .setwavb ⟨cond, d⟩
  | 0x0FA#9 =>
      need (!f.z && !f.c) .effectBit <| withDImm f fun cond d => .setfrqb ⟨cond, d⟩
  | 0x0FB#9 =>
      need (!f.z && !f.c) .effectBit <| withDImm f fun cond d => .setphsb ⟨cond, d⟩
  | 0x0FC#9 =>
      need (!f.z && !f.c) .effectBit <| withDImm f fun cond d => .addphsb ⟨cond, d⟩
  | 0x0FD#9 =>
      need (!f.z && !f.c) .effectBit <| withDImm f fun cond d => .subphsb ⟨cond, d⟩
  | 0x0FE#9 =>
      need (!f.z && !f.c) .effectBit <| .ok (.synctrb ⟨f.r, f.cond, f.d⟩)
  | 0x0FF#9 =>
      need (!f.z && !f.c) .effectBit <| .ok (.capctrb ⟨f.r, f.cond, f.d⟩)
  | _ => .error .noRow

/-- Bit instructions `1ooobbbbb` (R136). -/
def decodeExtBit (f : Fields) : Except DecodeError Instr :=
  match f.s.extractLsb' 5 3 with
  | 0#3 => need (!f.c) .effectBit <| withD f fun cond d => .isob ⟨f.z, f.r, cond, d, f.s.extractLsb' 0 5⟩
  | 1#3 => need (!f.c) .effectBit <| withD f fun cond d => .notb ⟨f.z, f.r, cond, d, f.s.extractLsb' 0 5⟩
  | 2#3 => need (!f.c) .effectBit <| withD f fun cond d => .clrb ⟨f.z, f.r, cond, d, f.s.extractLsb' 0 5⟩
  | 3#3 => need (!f.c) .effectBit <| withD f fun cond d => .setb ⟨f.z, f.r, cond, d, f.s.extractLsb' 0 5⟩
  | 4#3 => need (!f.c) .effectBit <| withD f fun cond d => .setbc ⟨f.z, f.r, cond, d, f.s.extractLsb' 0 5⟩
  | 5#3 => need (!f.c) .effectBit <| withD f fun cond d => .setbnc ⟨f.z, f.r, cond, d, f.s.extractLsb' 0 5⟩
  | 6#3 => need (!f.c) .effectBit <| withD f fun cond d => .setbz ⟨f.z, f.r, cond, d, f.s.extractLsb' 0 5⟩
  | 7#3 => need (!f.c) .effectBit <| withD f fun cond d => .setbnz ⟨f.z, f.r, cond, d, f.s.extractLsb' 0 5⟩

/-- Extended set, OP 000011 with I = 1, by the S field (R138). -/
def decodeExt (f : Fields) : Except DecodeError Instr :=
  if f.s.getLsbD 8 then decodeExtBit f
  else match f.s.extractLsb' 4 5 with
  | 0x00#5 => decodeExtControl f
  | 0x01#5 => decodeExtStack f
  | 0x02#5 => decodeExtBits f
  | 0x03#5 => decodeExtBits f
  | 0x09#5 => need (!f.z && !f.c) .noRow <| withDImm f fun cond d => .jmptask ⟨cond, d, f.s.extractLsb' 0 4⟩
  | 0x0A#5 => decodeExtPush f
  | 0x0B#5 => decodeExtPtr f
  | 0x0C#5 => decodeExtPins f
  | 0x0D#5 => decodeExtPins f
  | 0x0E#5 => decodeExtDevices f
  | 0x0F#5 => decodeExtDevices f
  | _ => .error .noRow

/-- SETINDx, selected by CCCC; the field a row does not use is 0 (R135). -/
def decodeSetind (f : Fields) : Except DecodeError Instr :=
  match f.cond with
  | 1#4 => need (f.d == 0#9) .noRow <| .ok (.setindaAddr ⟨f.s⟩)
  | 3#4 => need (f.d == 0#9) .noRow <| .ok (.setindaDelta ⟨f.s⟩)
  | 4#4 => need (f.s == 0#9) .noRow <| .ok (.setindbAddr ⟨f.d⟩)
  | 12#4 => need (f.s == 0#9) .noRow <| .ok (.setindbDelta ⟨f.d⟩)
  | 5#4 => .ok (.setindsAddrAddr ⟨f.d, f.s⟩)
  | 7#4 => .ok (.setindsAddrDelta ⟨f.d, f.s⟩)
  | 13#4 => .ok (.setindsDeltaAddr ⟨f.d, f.s⟩)
  | 15#4 => .ok (.setindsDeltaDelta ⟨f.d, f.s⟩)
  | _ => .error .noRow

/-- FIXINDx, selected by CCCC (R135). -/
def decodeFixind (f : Fields) : Except DecodeError Instr :=
  match f.cond with
  | 1#4 => .ok (.fixinda ⟨f.d, f.s⟩)
  | 4#4 => .ok (.fixindb ⟨f.d, f.s⟩)
  | 5#4 => .ok (.fixinds ⟨f.d, f.s⟩)
  | _ => .error .noRow

/-- Opcodes 000000..001111 (R123, R140, R141). -/
def decodeLow (f : Fields) : Except DecodeError Instr :=
  match f.op with
  | 0x00#6 =>
      if !f.z && !f.c && !f.r then withHub f fun cond d addr => .wrbyte ⟨cond, d, addr⟩
      else if !f.c && f.r then withHub f fun cond d addr => .rdbyte ⟨f.z, cond, d, addr⟩
      else if f.c && f.r then withHub f fun cond d addr => .rdbytec ⟨f.z, cond, d, addr⟩
      else .error .noRow
  | 0x01#6 =>
      if !f.z && !f.c && !f.r then withHub f fun cond d addr => .wrword ⟨cond, d, addr⟩
      else if !f.c && f.r then withHub f fun cond d addr => .rdword ⟨f.z, cond, d, addr⟩
      else if f.c && f.r then withHub f fun cond d addr => .rdwordc ⟨f.z, cond, d, addr⟩
      else .error .noRow
  | 0x02#6 =>
      if !f.z && !f.c && !f.r then withHub f fun cond d addr => .wrlong ⟨cond, d, addr⟩
      else if !f.c && f.r then withHub f fun cond d addr => .rdlong ⟨f.z, cond, d, addr⟩
      else if f.c && f.r then withHub f fun cond d addr => .rdlongc ⟨f.z, cond, d, addr⟩
      else .error .noRow
  | 0x03#6 =>
      if f.i then decodeExt f else withDD f fun cond d s => .coginit ⟨f.z, f.c, f.r, cond, d, s⟩
  | 0x04#6 =>
      if !f.z && !f.c && !f.r then withDS f fun cond d s => .setacca ⟨cond, d, s⟩
      else if !f.z && f.c && !f.r then withDS f fun cond d s => .setaccb ⟨cond, d, s⟩
      else if f.z && !f.c && !f.r then withDS f fun cond d s => .maca ⟨cond, d, s⟩
      else if f.z && f.c && !f.r then withDS f fun cond d s => .macb ⟨cond, d, s⟩
      else if f.r then need (!f.c) .effectBit <| withDS f fun cond d s => .mul ⟨f.z, cond, d, s⟩
      else .error .noRow
  | 0x05#6 =>
      if f.r then need (!f.c) .effectBit <| withDS f fun cond d s => .scl ⟨f.z, cond, d, s⟩
      else .error .noRow
  | 0x06#6 =>
      need (!f.c) .effectBit <| withDS f fun cond d s => .enc ⟨f.z, f.r, cond, d, s⟩
  | 0x07#6 =>
      need (!f.c) .effectBit <| withDS f fun cond d s => .jmpret ⟨f.z, f.r, cond, d, s⟩
  | 0x08#6 =>
      withDS f fun cond d s => .ror ⟨f.z, f.c, f.r, cond, d, s⟩
  | 0x09#6 =>
      withDS f fun cond d s => .rol ⟨f.z, f.c, f.r, cond, d, s⟩
  | 0x0A#6 =>
      withDS f fun cond d s => .shr ⟨f.z, f.c, f.r, cond, d, s⟩
  | 0x0B#6 =>
      withDS f fun cond d s => .shl ⟨f.z, f.c, f.r, cond, d, s⟩
  | 0x0C#6 =>
      withDS f fun cond d s => .rcr ⟨f.z, f.c, f.r, cond, d, s⟩
  | 0x0D#6 =>
      withDS f fun cond d s => .rcl ⟨f.z, f.c, f.r, cond, d, s⟩
  | 0x0E#6 =>
      withDS f fun cond d s => .sar ⟨f.z, f.c, f.r, cond, d, s⟩
  | 0x0F#6 =>
      withDS f fun cond d s => .rev ⟨f.z, f.c, f.r, cond, d, s⟩
  | _ => .error .noRow

/-- Opcodes 010000..011111 (R123). -/
def decodeLogic (f : Fields) : Except DecodeError Instr :=
  match f.op with
  | 0x10#6 =>
      withDS f fun cond d s => .mins ⟨f.z, f.c, f.r, cond, d, s⟩
  | 0x11#6 =>
      withDS f fun cond d s => .maxs ⟨f.z, f.c, f.r, cond, d, s⟩
  | 0x12#6 =>
      withDS f fun cond d s => .min ⟨f.z, f.c, f.r, cond, d, s⟩
  | 0x13#6 =>
      withDS f fun cond d s => .max ⟨f.z, f.c, f.r, cond, d, s⟩
  | 0x14#6 =>
      need (!f.c) .effectBit <| withDS f fun cond d s => .movs ⟨f.z, f.r, cond, d, s⟩
  | 0x15#6 =>
      need (!f.c) .effectBit <| withDS f fun cond d s => .movd ⟨f.z, f.r, cond, d, s⟩
  | 0x16#6 =>
      need (!f.c) .effectBit <| withDS f fun cond d s => .movi ⟨f.z, f.r, cond, d, s⟩
  | 0x17#6 =>
      need (!f.c) .effectBit <| withDS f fun cond d s => .jmpretd ⟨f.z, f.r, cond, d, s⟩
  | 0x18#6 =>
      withDS f fun cond d s => .and ⟨f.z, f.c, f.r, cond, d, s⟩
  | 0x19#6 =>
      withDS f fun cond d s => .andn ⟨f.z, f.c, f.r, cond, d, s⟩
  | 0x1A#6 =>
      withDS f fun cond d s => .or ⟨f.z, f.c, f.r, cond, d, s⟩
  | 0x1B#6 =>
      withDS f fun cond d s => .xor ⟨f.z, f.c, f.r, cond, d, s⟩
  | 0x1C#6 =>
      withDS f fun cond d s => .muxc ⟨f.z, f.c, f.r, cond, d, s⟩
  | 0x1D#6 =>
      withDS f fun cond d s => .muxnc ⟨f.z, f.c, f.r, cond, d, s⟩
  | 0x1E#6 =>
      withDS f fun cond d s => .muxz ⟨f.z, f.c, f.r, cond, d, s⟩
  | 0x1F#6 =>
      withDS f fun cond d s => .muxnz ⟨f.z, f.c, f.r, cond, d, s⟩
  | _ => .error .noRow

/-- Opcodes 100000..101111 (R123). -/
def decodeSums (f : Fields) : Except DecodeError Instr :=
  match f.op with
  | 0x20#6 =>
      withDS f fun cond d s => .add ⟨f.z, f.c, f.r, cond, d, s⟩
  | 0x21#6 =>
      withDS f fun cond d s => .sub ⟨f.z, f.c, f.r, cond, d, s⟩
  | 0x22#6 =>
      withDS f fun cond d s => .addabs ⟨f.z, f.c, f.r, cond, d, s⟩
  | 0x23#6 =>
      withDS f fun cond d s => .subabs ⟨f.z, f.c, f.r, cond, d, s⟩
  | 0x24#6 =>
      withDS f fun cond d s => .sumc ⟨f.z, f.c, f.r, cond, d, s⟩
  | 0x25#6 =>
      withDS f fun cond d s => .sumnc ⟨f.z, f.c, f.r, cond, d, s⟩
  | 0x26#6 =>
      withDS f fun cond d s => .sumz ⟨f.z, f.c, f.r, cond, d, s⟩
  | 0x27#6 =>
      withDS f fun cond d s => .sumnz ⟨f.z, f.c, f.r, cond, d, s⟩
  | 0x28#6 =>
      withDS f fun cond d s => .mov ⟨f.z, f.c, f.r, cond, d, s⟩
  | 0x29#6 =>
      withDS f fun cond d s => .neg ⟨f.z, f.c, f.r, cond, d, s⟩
  | 0x2A#6 =>
      withDS f fun cond d s => .abs ⟨f.z, f.c, f.r, cond, d, s⟩
  | 0x2B#6 =>
      withDS f fun cond d s => .absneg ⟨f.z, f.c, f.r, cond, d, s⟩
  | 0x2C#6 =>
      withDS f fun cond d s => .negc ⟨f.z, f.c, f.r, cond, d, s⟩
  | 0x2D#6 =>
      withDS f fun cond d s => .negnc ⟨f.z, f.c, f.r, cond, d, s⟩
  | 0x2E#6 =>
      withDS f fun cond d s => .negz ⟨f.z, f.c, f.r, cond, d, s⟩
  | 0x2F#6 =>
      withDS f fun cond d s => .negnz ⟨f.z, f.c, f.r, cond, d, s⟩
  | _ => .error .noRow

/-- Opcodes 110000..111111 (R123, R135, R142). -/
noncomputable def decodeHigh (f : Fields) : Except DecodeError Instr :=
  match f.op with
  | 0x30#6 =>
      withDS f fun cond d s => .cmps ⟨f.z, f.c, f.r, cond, d, s⟩
  | 0x31#6 =>
      withDS f fun cond d s => .cmpsx ⟨f.z, f.c, f.r, cond, d, s⟩
  | 0x32#6 =>
      withDS f fun cond d s => .addx ⟨f.z, f.c, f.r, cond, d, s⟩
  | 0x33#6 =>
      withDS f fun cond d s => .subx ⟨f.z, f.c, f.r, cond, d, s⟩
  | 0x34#6 =>
      withDS f fun cond d s => .adds ⟨f.z, f.c, f.r, cond, d, s⟩
  | 0x35#6 =>
      withDS f fun cond d s => .subs ⟨f.z, f.c, f.r, cond, d, s⟩
  | 0x36#6 =>
      withDS f fun cond d s => .addsx ⟨f.z, f.c, f.r, cond, d, s⟩
  | 0x37#6 =>
      withDS f fun cond d s => .subsx ⟨f.z, f.c, f.r, cond, d, s⟩
  | 0x38#6 =>
      if !f.z && !f.c && !f.r && !f.i then decodeSetind f else withDS f fun cond d s => .subr ⟨f.z, f.c, f.r, cond, d, s⟩
  | 0x39#6 =>
      if !f.z && !f.c && !f.r && !f.i then decodeFixind f else withDS f fun cond d s => .cmpsub ⟨f.z, f.c, f.r, cond, d, s⟩
  | 0x3A#6 =>
      need (!f.c) .effectBit <| withDS f fun cond d s => .incmod ⟨f.z, f.r, cond, d, s⟩
  | 0x3B#6 =>
      need (!f.c) .effectBit <| withDS f fun cond d s => .decmod ⟨f.z, f.r, cond, d, s⟩
  | 0x3C#6 =>
      if !f.z && !f.c then withDS f fun cond d s => .ijz ⟨f.r, cond, d, s⟩
      else if !f.z && f.c then withDS f fun cond d s => .ijzd ⟨f.r, cond, d, s⟩
      else if f.z && !f.c then withDS f fun cond d s => .ijnz ⟨f.r, cond, d, s⟩
      else if f.z && f.c then withDS f fun cond d s => .ijnzd ⟨f.r, cond, d, s⟩
      else .error .noRow
  | 0x3D#6 =>
      if !f.z && !f.c then withDS f fun cond d s => .djz ⟨f.r, cond, d, s⟩
      else if !f.z && f.c then withDS f fun cond d s => .djzd ⟨f.r, cond, d, s⟩
      else if f.z && !f.c then withDS f fun cond d s => .djnz ⟨f.r, cond, d, s⟩
      else if f.z && f.c then withDS f fun cond d s => .djnzd ⟨f.r, cond, d, s⟩
      else .error .noRow
  | 0x3E#6 =>
      if !f.z && !f.c && !f.r then withDS f fun cond d s => .tjz ⟨cond, d, s⟩
      else if !f.z && f.c && !f.r then withDS f fun cond d s => .tjzd ⟨cond, d, s⟩
      else if f.z && !f.c && !f.r then withDS f fun cond d s => .tjnz ⟨cond, d, s⟩
      else if f.z && f.c && !f.r then withDS f fun cond d s => .tjnzd ⟨cond, d, s⟩
      else if f.z && !f.c && f.r then withDS f fun cond d s => .cfgpins ⟨cond, d, s⟩
      else if f.z && f.c && f.r then withDS f fun cond d s => .waitvid ⟨cond, d, s⟩
      else .error .olderForm
  | 0x3F#6 =>
      if !f.z then withDS f fun cond d s => .waitcnt ⟨f.c, f.r, cond, d, s⟩
      else if f.z && !f.r then need (!f.c) .effectBit <| withDS f fun cond d s => .waitpeq ⟨cond, d, s⟩
      else if f.z && f.r then need (!f.c) .effectBit <| withDS f fun cond d s => .waitpne ⟨cond, d, s⟩
      else .error .noRow
  | _ => .error .noRow

/-- The instruction with the fields `f` (R158). -/
noncomputable def decodeFields (f : Fields) : Except DecodeError Instr :=
  match f.op.extractLsb' 4 2 with
  | 0#2 => decodeLow f
  | 1#2 => decodeLogic f
  | 2#2 => decodeSums f
  | 3#2 => decodeHigh f

/-- The decode procedure, total on every long (R158). -/
noncomputable def decode (w : Word) : Except DecodeError Instr := decodeFields (fieldsOf w)

/-- The instruction the decoder reads from the bits `w` of an instruction; every instruction is one
long (R120). -/
noncomputable def decodeTableWord (_nbits w : Nat) : Option Instr := (decode (BitVec.ofNat 32 w)).toOption

/-! ### The encoder -/

/-- Register field of an operand (R23, R131). -/
def regBits : Reg → BitVec 9
  | .dir a => a
  | .ind .a _ => 0x1F6#9
  | .ind .b _ => 0x1F7#9

/-- Modifier of a reference; 00 where there is none (R131). -/
def modBits : Reg → BitVec 2
  | .dir _ => 0#2
  | .ind _ m => m

def srcBits : Src → BitVec 9
  | .reg x => regBits x
  | .imm n => n

def srcModBits : Src → BitVec 2
  | .reg x => modBits x
  | .imm _ => 0#2

def dimmBits : DImm → BitVec 9
  | .reg x => regBits x
  | .imm n => n

def dimmModBits : DImm → BitVec 2
  | .reg x => modBits x
  | .imm _ => 0#2

def dimmIsImm : DImm → Bool
  | .reg _ => false
  | .imm _ => true

/-- `S U P NNNNNN` (R134). -/
def ptrBits (e : PtrExpr) : BitVec 9 :=
  BitVec.ofBool e.useB ++ BitVec.ofBool e.upd ++ BitVec.ofBool e.post ++ e.index

def hubBits : HubOperand → BitVec 9
  | .reg x => regBits x
  | .ptr e => ptrBits e

def hubModBits : HubOperand → BitVec 2
  | .reg x => modBits x
  | .ptr _ => 0#2

def hubIsPtr : HubOperand → Bool
  | .reg _ => false
  | .ptr _ => true

/-- CCCC: the condition, or the two modifiers where there is a reference (R131). -/
def condBits (cond : Cond) (ind : Bool) (dm sm : BitVec 2) : BitVec 4 :=
  if ind then dm ++ sm else cond

/-- Fields of a D,S instruction (R122). -/
def fieldsDS (op : BitVec 6) (z c r : Bool) (cond : Cond) (d : Reg) (s : Src) : Fields :=
  ⟨op, z, c, r, s.isImm, condBits cond (d.isInd || s.isInd) (modBits d) (srcModBits s),
    regBits d, srcBits s⟩

/-- Fields of a HUB memory instruction (R140). -/
def fieldsHub (op : BitVec 6) (z c r : Bool) (cond : Cond) (d : Reg) (a : HubOperand) : Fields :=
  ⟨op, z, c, r, hubIsPtr a, condBits cond (d.isInd || a.isInd) (modBits d) (hubModBits a),
    regBits d, hubBits a⟩

/-- Fields of an extended-set instruction with a register D (R128). -/
def fieldsExt (sub : BitVec 9) (z c r : Bool) (cond : Cond) (d : Reg) : Fields :=
  ⟨0x03#6, z, c, r, true, condBits cond d.isInd (modBits d) 0#2, regBits d, sub⟩

/-- Fields of an extended-set instruction whose D field is fixed or ignored (R128, R139). -/
def fieldsSel (sub : BitVec 9) (z c r : Bool) (cond : Cond) (d : BitVec 9) : Fields :=
  ⟨0x03#6, z, c, r, true, cond, d, sub⟩

/-- Fields of a D/#n instruction (R128). -/
def fieldsDn (sub : BitVec 9) (z c : Bool) (cond : Cond) (d : DImm) : Fields :=
  ⟨0x03#6, z, c, dimmIsImm d, true, condBits cond d.isInd (dimmModBits d) 0#2, dimmBits d, sub⟩

/-- Fields of WRQUAD, RDQUAD, RDQUADC (R138). -/
def fieldsQuad (sub : BitVec 9) (c : Bool) (cond : Cond) (a : HubOperand) : Fields :=
  ⟨0x03#6, false, c, hubIsPtr a, true, condBits cond a.isInd (hubModBits a) 0#2, hubBits a, sub⟩

/-- Fields of SETINDx and FIXINDx (R135). -/
def fieldsInd (op : BitVec 6) (sel : BitVec 4) (d s : BitVec 9) : Fields :=
  ⟨op, false, false, false, false, sel, d, s⟩

/-- The fields of an instruction that has words (R120 to R142); none for a row without an encoding,
and for an alias those of the instruction it stands for (R156). -/
def fieldsFor : Instr → Option Fields
  | .wrbyte o => some (fieldsHub 0x00#6 false false false o.cond o.d o.addr)
  | .rdbyte o => some (fieldsHub 0x00#6 o.z false true o.cond o.d o.addr)
  | .rdbytec o => some (fieldsHub 0x00#6 o.z true true o.cond o.d o.addr)
  | .wrword o => some (fieldsHub 0x01#6 false false false o.cond o.d o.addr)
  | .rdword o => some (fieldsHub 0x01#6 o.z false true o.cond o.d o.addr)
  | .rdwordc o => some (fieldsHub 0x01#6 o.z true true o.cond o.d o.addr)
  | .wrlong o => some (fieldsHub 0x02#6 false false false o.cond o.d o.addr)
  | .rdlong o => some (fieldsHub 0x02#6 o.z false true o.cond o.d o.addr)
  | .rdlongc o => some (fieldsHub 0x02#6 o.z true true o.cond o.d o.addr)
  | .coginit o => some (⟨0x03#6, o.z, o.c, o.r, false, condBits o.cond (o.d.isInd || o.s.isInd) (modBits o.d) (modBits o.s),
      regBits o.d, regBits o.s⟩)
  | .clkset o => some (fieldsExt 0x000#9 false false false o.cond o.d)
  | .cogid o => some (fieldsExt 0x001#9 false false true o.cond o.d)
  | .cogstop o => some (fieldsExt 0x003#9 false false false o.cond o.d)
  | .locknew o => some (fieldsExt 0x004#9 o.z o.c true o.cond o.d)
  | .lockret o => some (fieldsExt 0x005#9 false false false o.cond o.d)
  | .lockset o => some (fieldsExt 0x006#9 false o.c false o.cond o.d)
  | .lockclr o => some (fieldsExt 0x007#9 false o.c false o.cond o.d)
  | .cachex o => some (fieldsSel 0x008#9 false false false o.cond 0#9)
  | .clracca o => some (fieldsSel 0x008#9 false false o.r o.cond 1#9)
  | .clraccb o => some (fieldsSel 0x008#9 false false o.r o.cond 2#9)
  | .clraccs o => some (fieldsSel 0x008#9 false false o.r o.cond 3#9)
  | .fitacca o => some (fieldsSel 0x008#9 false false o.r o.cond 5#9)
  | .fitaccb o => some (fieldsSel 0x008#9 false false o.r o.cond 6#9)
  | .fitaccs o => some (fieldsSel 0x008#9 false false o.r o.cond 7#9)
  | .sndser o => some (fieldsExt 0x009#9 false o.c false o.cond o.d)
  | .rcvser o => some (fieldsExt 0x009#9 o.z o.c true o.cond o.d)
  | .pushzc o => some (fieldsExt 0x00A#9 o.z o.c o.r o.cond o.d)
  | .popzc o => some (fieldsExt 0x00B#9 o.z o.c o.r o.cond o.d)
  | .subcnt o => some (fieldsExt 0x00C#9 o.z false o.r o.cond o.d)
  | .getcnt o => some (fieldsExt 0x00D#9 o.z false o.r o.cond o.d)
  | .getacca o => some (fieldsExt 0x00E#9 o.z false o.r o.cond o.d)
  | .getaccb o => some (fieldsExt 0x00F#9 o.z false o.r o.cond o.d)
  | .getlfsr o => some (fieldsExt 0x010#9 o.z false o.r o.cond o.d)
  | .gettops o => some (fieldsExt 0x011#9 o.z false true o.cond o.d)
  | .getptra o => some (fieldsExt 0x012#9 o.z o.c o.r o.cond o.d)
  | .getptrb o => some (fieldsExt 0x013#9 o.z o.c o.r o.cond o.d)
  | .getpix o => some (fieldsExt 0x014#9 o.z false o.r o.cond o.d)
  | .chkspd o => some (fieldsSel 0x015#9 o.z o.c false o.cond 0#9)
  | .getspd o => some (fieldsExt 0x015#9 o.z o.c true o.cond o.d)
  | .chkspa o => some (fieldsSel 0x016#9 o.z o.c false o.cond 0#9)
  | .getspa o => some (fieldsExt 0x016#9 o.z o.c true o.cond o.d)
  | .chkspb o => some (fieldsSel 0x017#9 o.z o.c false o.cond 0#9)
  | .getspb o => some (fieldsExt 0x017#9 o.z o.c true o.cond o.d)
  | .popar o => some (fieldsExt 0x018#9 o.z o.c true o.cond o.d)
  | .popbr o => some (fieldsExt 0x019#9 o.z o.c true o.cond o.d)
  | .popa o => some (fieldsExt 0x01A#9 o.z o.c true o.cond o.d)
  | .popb o => some (fieldsExt 0x01B#9 o.z o.c true o.cond o.d)
  | .reta o => some (fieldsSel 0x01C#9 o.z o.c false o.cond 0#9)
  | .retb o => some (fieldsSel 0x01D#9 o.z o.c false o.cond 0#9)
  | .retad o => some (fieldsSel 0x01E#9 o.z o.c false o.cond 0#9)
  | .retbd o => some (fieldsSel 0x01F#9 o.z o.c false o.cond 0#9)
  | .decod5 o => some (fieldsExt 0x020#9 o.z false o.r o.cond o.d)
  | .decod4 o => some (fieldsExt 0x021#9 o.z false o.r o.cond o.d)
  | .decod3 o => some (fieldsExt 0x022#9 o.z false o.r o.cond o.d)
  | .decod2 o => some (fieldsExt 0x023#9 o.z false o.r o.cond o.d)
  | .blmask o => some (fieldsExt 0x024#9 o.z false o.r o.cond o.d)
  | .not o => some (fieldsExt 0x025#9 o.z false o.r o.cond o.d)
  | .onecnt o => some (fieldsExt 0x026#9 o.z false o.r o.cond o.d)
  | .zercnt o => some (fieldsExt 0x027#9 o.z false o.r o.cond o.d)
  | .incpat o => some (fieldsExt 0x028#9 o.z false o.r o.cond o.d)
  | .decpat o => some (fieldsExt 0x029#9 o.z false o.r o.cond o.d)
  | .bingry o => some (fieldsExt 0x02A#9 o.z false o.r o.cond o.d)
  | .grybin o => some (fieldsExt 0x02B#9 o.z false o.r o.cond o.d)
  | .mergew o => some (fieldsExt 0x02C#9 o.z false o.r o.cond o.d)
  | .splitw o => some (fieldsExt 0x02D#9 o.z false o.r o.cond o.d)
  | .seussf o => some (fieldsExt 0x02E#9 o.z false o.r o.cond o.d)
  | .seussr o => some (fieldsExt 0x02F#9 o.z false o.r o.cond o.d)
  | .getphsa o => some (fieldsExt 0x038#9 o.z false o.r o.cond o.d)
  | .getphza o => some (fieldsExt 0x039#9 o.z false o.r o.cond o.d)
  | .getcosa o => some (fieldsExt 0x03A#9 o.z false o.r o.cond o.d)
  | .getsina o => some (fieldsExt 0x03B#9 o.z false o.r o.cond o.d)
  | .getphsb o => some (fieldsExt 0x03C#9 o.z false o.r o.cond o.d)
  | .getphzb o => some (fieldsExt 0x03D#9 o.z false o.r o.cond o.d)
  | .getcosb o => some (fieldsExt 0x03E#9 o.z false o.r o.cond o.d)
  | .getsinb o => some (fieldsExt 0x03F#9 o.z false o.r o.cond o.d)
  | .jmptask o => some (fieldsDn (0b01001#5 ++ o.mask) false false o.cond o.d)
  | .nopx o => some (fieldsDn 0x0A0#9 false false o.cond o.d)
  | .setzc o => some (fieldsDn 0x0A1#9 o.z o.c o.cond o.d)
  | .setspa o => some (fieldsDn 0x0A2#9 false false o.cond o.d)
  | .setspb o => some (fieldsDn 0x0A3#9 false false o.cond o.d)
  | .addspa o => some (fieldsDn 0x0A4#9 false false o.cond o.d)
  | .addspb o => some (fieldsDn 0x0A5#9 false false o.cond o.d)
  | .subspa o => some (fieldsDn 0x0A6#9 false false o.cond o.d)
  | .subspb o => some (fieldsDn 0x0A7#9 false false o.cond o.d)
  | .pushar o => some (fieldsDn 0x0A8#9 false false o.cond o.d)
  | .pushbr o => some (fieldsDn 0x0A9#9 false false o.cond o.d)
  | .pusha o => some (fieldsDn 0x0AA#9 false false o.cond o.d)
  | .pushb o => some (fieldsDn 0x0AB#9 false false o.cond o.d)
  | .calla o => some (fieldsDn 0x0AC#9 false false o.cond o.d)
  | .callb o => some (fieldsDn 0x0AD#9 false false o.cond o.d)
  | .callad o => some (fieldsDn 0x0AE#9 false false o.cond o.d)
  | .callbd o => some (fieldsDn 0x0AF#9 false false o.cond o.d)
  | .wrquad o => some (fieldsQuad 0x0B0#9 false o.cond o.addr)
  | .rdquad o => some (fieldsQuad 0x0B1#9 false o.cond o.addr)
  | .rdquadc o => some (fieldsQuad 0x0B1#9 true o.cond o.addr)
  | .setptra o => some (fieldsDn 0x0B2#9 false false o.cond o.d)
  | .setptrb o => some (fieldsDn 0x0B3#9 false false o.cond o.d)
  | .addptra o => some (fieldsDn 0x0B4#9 false false o.cond o.d)
  | .addptrb o => some (fieldsDn 0x0B5#9 false false o.cond o.d)
  | .subptra o => some (fieldsDn 0x0B6#9 false false o.cond o.d)
  | .subptrb o => some (fieldsDn 0x0B7#9 false false o.cond o.d)
  | .setpix o => some (fieldsDn 0x0B8#9 false false o.cond o.d)
  | .setpixu o => some (fieldsDn 0x0B9#9 false false o.cond o.d)
  | .setpixv o => some (fieldsDn 0x0BA#9 false false o.cond o.d)
  | .setpixz o => some (fieldsDn 0x0BB#9 false false o.cond o.d)
  | .setpixa o => some (fieldsDn 0x0BC#9 false false o.cond o.d)
  | .setpixr o => some (fieldsDn 0x0BD#9 false false o.cond o.d)
  | .setpixg o => some (fieldsDn 0x0BE#9 false false o.cond o.d)
  | .setpixb o => some (fieldsDn 0x0BF#9 false false o.cond o.d)
  | .settask o => some (fieldsDn 0x0CB#9 false false o.cond o.d)
  | .cfgdac0 o => some (fieldsDn 0x0CC#9 false false o.cond o.d)
  | .cfgdac1 o => some (fieldsDn 0x0CD#9 false false o.cond o.d)
  | .cfgdac2 o => some (fieldsDn 0x0CE#9 false false o.cond o.d)
  | .cfgdac3 o => some (fieldsDn 0x0CF#9 false false o.cond o.d)
  | .setdac0 o => some (fieldsDn 0x0D0#9 false false o.cond o.d)
  | .setdac1 o => some (fieldsDn 0x0D1#9 false false o.cond o.d)
  | .setdac2 o => some (fieldsDn 0x0D2#9 false false o.cond o.d)
  | .setdac3 o => some (fieldsDn 0x0D3#9 false false o.cond o.d)
  | .cfgdacs o => some (fieldsDn 0x0D4#9 false false o.cond o.d)
  | .setdacs o => some (fieldsDn 0x0D5#9 false false o.cond o.d)
  | .getp o => some (fieldsDn 0x0D6#9 o.z o.c o.cond o.d)
  | .getpn o => some (fieldsDn 0x0D7#9 o.z o.c o.cond o.d)
  | .offp o => some (fieldsDn 0x0D8#9 false false o.cond o.d)
  | .notp o => some (fieldsDn 0x0D9#9 false false o.cond o.d)
  | .clrp o => some (fieldsDn 0x0DA#9 false false o.cond o.d)
  | .setp o => some (fieldsDn 0x0DB#9 false false o.cond o.d)
  | .setpc o => some (fieldsDn 0x0DC#9 false false o.cond o.d)
  | .setpnc o => some (fieldsDn 0x0DD#9 false false o.cond o.d)
  | .setpz o => some (fieldsDn 0x0DE#9 false false o.cond o.d)
  | .setpnz o => some (fieldsDn 0x0DF#9 false false o.cond o.d)
  | .setmap o => some (fieldsDn 0x0E1#9 false false o.cond o.d)
  | .setquad o => some (fieldsDn 0x0E2#9 false false o.cond o.d)
  | .setquaz o => some (fieldsDn 0x0E2#9 false true o.cond o.d)
  | .setport o => some (fieldsDn 0x0E3#9 false false o.cond o.d)
  | .setpora o => some (fieldsDn 0x0E4#9 false false o.cond o.d)
  | .setporb o => some (fieldsDn 0x0E5#9 false false o.cond o.d)
  | .setporc o => some (fieldsDn 0x0E6#9 false false o.cond o.d)
  | .setpord o => some (fieldsDn 0x0E7#9 false false o.cond o.d)
  | .setxch o => some (fieldsDn 0x0E8#9 false false o.cond o.d)
  | .setxfr o => some (fieldsDn 0x0E9#9 false false o.cond o.d)
  | .setser o => some (fieldsDn 0x0EA#9 false false o.cond o.d)
  | .setskip o => some (fieldsDn 0x0EB#9 false false o.cond o.d)
  | .setvid o => some (fieldsDn 0x0EC#9 false false o.cond o.d)
  | .setvidy o => some (fieldsDn 0x0ED#9 false false o.cond o.d)
  | .setvidi o => some (fieldsDn 0x0EE#9 false false o.cond o.d)
  | .setvidq o => some (fieldsDn 0x0EF#9 false false o.cond o.d)
  | .setctra o => some (fieldsDn 0x0F0#9 false false o.cond o.d)
  | .setwava o => some (fieldsDn 0x0F1#9 false false o.cond o.d)
  | .setfrqa o => some (fieldsDn 0x0F2#9 false false o.cond o.d)
  | .setphsa o => some (fieldsDn 0x0F3#9 false false o.cond o.d)
  | .addphsa o => some (fieldsDn 0x0F4#9 false false o.cond o.d)
  | .subphsa o => some (fieldsDn 0x0F5#9 false false o.cond o.d)
  | .synctra o => some (fieldsSel 0x0F6#9 false false o.n o.cond o.d)
  | .capctra o => some (fieldsSel 0x0F7#9 false false o.n o.cond o.d)
  | .setctrb o => some (fieldsDn 0x0F8#9 false false o.cond o.d)
  | .setwavb o => some (fieldsDn 0x0F9#9 false false o.cond o.d)
  | .setfrqb o => some (fieldsDn 0x0FA#9 false false o.cond o.d)
  | .setphsb o => some (fieldsDn 0x0FB#9 false false o.cond o.d)
  | .addphsb o => some (fieldsDn 0x0FC#9 false false o.cond o.d)
  | .subphsb o => some (fieldsDn 0x0FD#9 false false o.cond o.d)
  | .synctrb o => some (fieldsSel 0x0FE#9 false false o.n o.cond o.d)
  | .capctrb o => some (fieldsSel 0x0FF#9 false false o.n o.cond o.d)
  | .isob o => some (fieldsExt (0b1000#4 ++ o.b) o.z false o.r o.cond o.d)
  | .notb o => some (fieldsExt (0b1001#4 ++ o.b) o.z false o.r o.cond o.d)
  | .clrb o => some (fieldsExt (0b1010#4 ++ o.b) o.z false o.r o.cond o.d)
  | .setb o => some (fieldsExt (0b1011#4 ++ o.b) o.z false o.r o.cond o.d)
  | .setbc o => some (fieldsExt (0b1100#4 ++ o.b) o.z false o.r o.cond o.d)
  | .setbnc o => some (fieldsExt (0b1101#4 ++ o.b) o.z false o.r o.cond o.d)
  | .setbz o => some (fieldsExt (0b1110#4 ++ o.b) o.z false o.r o.cond o.d)
  | .setbnz o => some (fieldsExt (0b1111#4 ++ o.b) o.z false o.r o.cond o.d)
  | .setacca o => some (fieldsDS 0x04#6 false false false o.cond o.d o.s)
  | .setaccb o => some (fieldsDS 0x04#6 false true false o.cond o.d o.s)
  | .maca o => some (fieldsDS 0x04#6 true false false o.cond o.d o.s)
  | .macb o => some (fieldsDS 0x04#6 true true false o.cond o.d o.s)
  | .mul o => some (fieldsDS 0x04#6 o.z false true o.cond o.d o.s)
  | .scl o => some (fieldsDS 0x05#6 o.z false true o.cond o.d o.s)
  | .setindaAddr o => some (fieldsInd 0x38#6 1#4 0#9 o.n)
  | .setindaDelta o => some (fieldsInd 0x38#6 3#4 0#9 o.n)
  | .setindbAddr o => some (fieldsInd 0x38#6 4#4 o.n 0#9)
  | .setindbDelta o => some (fieldsInd 0x38#6 12#4 o.n 0#9)
  | .setindsAddrAddr o => some (fieldsInd 0x38#6 5#4 o.b o.a)
  | .setindsAddrDelta o => some (fieldsInd 0x38#6 7#4 o.b o.a)
  | .setindsDeltaAddr o => some (fieldsInd 0x38#6 13#4 o.b o.a)
  | .setindsDeltaDelta o => some (fieldsInd 0x38#6 15#4 o.b o.a)
  | .fixinda o => some (fieldsInd 0x39#6 1#4 o.terminal o.initial)
  | .fixindb o => some (fieldsInd 0x39#6 4#4 o.terminal o.initial)
  | .fixinds o => some (fieldsInd 0x39#6 5#4 o.terminal o.initial)
  | .enc o => some (fieldsDS 0x06#6 o.z false o.r o.cond o.d o.s)
  | .jmpret o => some (fieldsDS 0x07#6 o.z false o.r o.cond o.d o.s)
  | .ror o => some (fieldsDS 0x08#6 o.z o.c o.r o.cond o.d o.s)
  | .rol o => some (fieldsDS 0x09#6 o.z o.c o.r o.cond o.d o.s)
  | .shr o => some (fieldsDS 0x0A#6 o.z o.c o.r o.cond o.d o.s)
  | .shl o => some (fieldsDS 0x0B#6 o.z o.c o.r o.cond o.d o.s)
  | .rcr o => some (fieldsDS 0x0C#6 o.z o.c o.r o.cond o.d o.s)
  | .rcl o => some (fieldsDS 0x0D#6 o.z o.c o.r o.cond o.d o.s)
  | .sar o => some (fieldsDS 0x0E#6 o.z o.c o.r o.cond o.d o.s)
  | .rev o => some (fieldsDS 0x0F#6 o.z o.c o.r o.cond o.d o.s)
  | .mins o => some (fieldsDS 0x10#6 o.z o.c o.r o.cond o.d o.s)
  | .maxs o => some (fieldsDS 0x11#6 o.z o.c o.r o.cond o.d o.s)
  | .min o => some (fieldsDS 0x12#6 o.z o.c o.r o.cond o.d o.s)
  | .max o => some (fieldsDS 0x13#6 o.z o.c o.r o.cond o.d o.s)
  | .movs o => some (fieldsDS 0x14#6 o.z false o.r o.cond o.d o.s)
  | .movd o => some (fieldsDS 0x15#6 o.z false o.r o.cond o.d o.s)
  | .movi o => some (fieldsDS 0x16#6 o.z false o.r o.cond o.d o.s)
  | .jmpretd o => some (fieldsDS 0x17#6 o.z false o.r o.cond o.d o.s)
  | .and o => some (fieldsDS 0x18#6 o.z o.c o.r o.cond o.d o.s)
  | .andn o => some (fieldsDS 0x19#6 o.z o.c o.r o.cond o.d o.s)
  | .or o => some (fieldsDS 0x1A#6 o.z o.c o.r o.cond o.d o.s)
  | .xor o => some (fieldsDS 0x1B#6 o.z o.c o.r o.cond o.d o.s)
  | .muxc o => some (fieldsDS 0x1C#6 o.z o.c o.r o.cond o.d o.s)
  | .muxnc o => some (fieldsDS 0x1D#6 o.z o.c o.r o.cond o.d o.s)
  | .muxz o => some (fieldsDS 0x1E#6 o.z o.c o.r o.cond o.d o.s)
  | .muxnz o => some (fieldsDS 0x1F#6 o.z o.c o.r o.cond o.d o.s)
  | .add o => some (fieldsDS 0x20#6 o.z o.c o.r o.cond o.d o.s)
  | .sub o => some (fieldsDS 0x21#6 o.z o.c o.r o.cond o.d o.s)
  | .addabs o => some (fieldsDS 0x22#6 o.z o.c o.r o.cond o.d o.s)
  | .subabs o => some (fieldsDS 0x23#6 o.z o.c o.r o.cond o.d o.s)
  | .sumc o => some (fieldsDS 0x24#6 o.z o.c o.r o.cond o.d o.s)
  | .sumnc o => some (fieldsDS 0x25#6 o.z o.c o.r o.cond o.d o.s)
  | .sumz o => some (fieldsDS 0x26#6 o.z o.c o.r o.cond o.d o.s)
  | .sumnz o => some (fieldsDS 0x27#6 o.z o.c o.r o.cond o.d o.s)
  | .mov o => some (fieldsDS 0x28#6 o.z o.c o.r o.cond o.d o.s)
  | .neg o => some (fieldsDS 0x29#6 o.z o.c o.r o.cond o.d o.s)
  | .abs o => some (fieldsDS 0x2A#6 o.z o.c o.r o.cond o.d o.s)
  | .absneg o => some (fieldsDS 0x2B#6 o.z o.c o.r o.cond o.d o.s)
  | .negc o => some (fieldsDS 0x2C#6 o.z o.c o.r o.cond o.d o.s)
  | .negnc o => some (fieldsDS 0x2D#6 o.z o.c o.r o.cond o.d o.s)
  | .negz o => some (fieldsDS 0x2E#6 o.z o.c o.r o.cond o.d o.s)
  | .negnz o => some (fieldsDS 0x2F#6 o.z o.c o.r o.cond o.d o.s)
  | .cmps o => some (fieldsDS 0x30#6 o.z o.c o.r o.cond o.d o.s)
  | .cmpsx o => some (fieldsDS 0x31#6 o.z o.c o.r o.cond o.d o.s)
  | .addx o => some (fieldsDS 0x32#6 o.z o.c o.r o.cond o.d o.s)
  | .subx o => some (fieldsDS 0x33#6 o.z o.c o.r o.cond o.d o.s)
  | .adds o => some (fieldsDS 0x34#6 o.z o.c o.r o.cond o.d o.s)
  | .subs o => some (fieldsDS 0x35#6 o.z o.c o.r o.cond o.d o.s)
  | .addsx o => some (fieldsDS 0x36#6 o.z o.c o.r o.cond o.d o.s)
  | .subsx o => some (fieldsDS 0x37#6 o.z o.c o.r o.cond o.d o.s)
  | .subr o => some (fieldsDS 0x38#6 o.z o.c o.r o.cond o.d o.s)
  | .cmpsub o => some (fieldsDS 0x39#6 o.z o.c o.r o.cond o.d o.s)
  | .incmod o => some (fieldsDS 0x3A#6 o.z false o.r o.cond o.d o.s)
  | .decmod o => some (fieldsDS 0x3B#6 o.z false o.r o.cond o.d o.s)
  | .ijz o => some (fieldsDS 0x3C#6 false false o.r o.cond o.d o.s)
  | .ijzd o => some (fieldsDS 0x3C#6 false true o.r o.cond o.d o.s)
  | .ijnz o => some (fieldsDS 0x3C#6 true false o.r o.cond o.d o.s)
  | .ijnzd o => some (fieldsDS 0x3C#6 true true o.r o.cond o.d o.s)
  | .djz o => some (fieldsDS 0x3D#6 false false o.r o.cond o.d o.s)
  | .djzd o => some (fieldsDS 0x3D#6 false true o.r o.cond o.d o.s)
  | .djnz o => some (fieldsDS 0x3D#6 true false o.r o.cond o.d o.s)
  | .djnzd o => some (fieldsDS 0x3D#6 true true o.r o.cond o.d o.s)
  | .tjz o => some (fieldsDS 0x3E#6 false false false o.cond o.d o.s)
  | .tjzd o => some (fieldsDS 0x3E#6 false true false o.cond o.d o.s)
  | .tjnz o => some (fieldsDS 0x3E#6 true false false o.cond o.d o.s)
  | .tjnzd o => some (fieldsDS 0x3E#6 true true false o.cond o.d o.s)
  | .cfgpins o => some (fieldsDS 0x3E#6 true false true o.cond o.d o.s)
  | .waitvid o => some (fieldsDS 0x3E#6 true true true o.cond o.d o.s)
  | .waitcnt o => some (fieldsDS 0x3F#6 false o.high o.r o.cond o.d o.s)
  | .waitpeq o => some (fieldsDS 0x3F#6 true false false o.cond o.d o.s)
  | .waitpne o => some (fieldsDS 0x3F#6 true false true o.cond o.d o.s)
  | .setindaOld _ => none
  | .setindbOld _ => none
  | .setcog _ => none
  | .reps _ => none
  | .repd _ => none
  | .getmull _ => none
  | .getmulh _ => none
  | .getdivq _ => none
  | .getdivr _ => none
  | .getsqrt _ => none
  | .getqx _ => none
  | .getqy _ => none
  | .getqz _ => none
  | .polctra _ => none
  | .polctrb _ => none
  | .polvid _ => none
  | .passcnt _ => none
  | .jp _ => none
  | .jnp _ => none
  | .nop => some (⟨0x00#6, false, false, false, false, 0#4, 0#9, 0#9⟩)
  | .jmp o => some (fieldsDS 0x07#6 false false false o.cond (.dir 0#9) o.s)
  | .jmpd o => some (fieldsDS 0x17#6 false false false o.cond (.dir 0#9) o.s)
  | .call o => some (fieldsDS 0x07#6 false false true o.cond o.d (.imm o.target))
  | .ret o => some (fieldsDS 0x07#6 false false false o.cond (.dir 0#9) (.imm 0#9))
  | .calld o => some (fieldsDS 0x17#6 false false true o.cond o.d (.imm o.target))
  | .retd o => some (fieldsDS 0x17#6 false false false o.cond (.dir 0#9) (.imm 0#9))

/-- The word of an instruction, for the instructions that have one. -/
def encode (i : Instr) : Option Word := (fieldsFor i).map wordOf

/-- The instruction is what the decoder reads from its word: every row of the table but those marked
not decodable (R158). -/
def hasOwnWords : Instr → Bool
  | .wrbyte _ => true
  | .rdbyte _ => true
  | .rdbytec _ => true
  | .wrword _ => true
  | .rdword _ => true
  | .rdwordc _ => true
  | .wrlong _ => true
  | .rdlong _ => true
  | .rdlongc _ => true
  | .coginit _ => true
  | .clkset _ => true
  | .cogid _ => true
  | .cogstop _ => true
  | .locknew _ => true
  | .lockret _ => true
  | .lockset _ => true
  | .lockclr _ => true
  | .cachex _ => true
  | .clracca _ => true
  | .clraccb _ => true
  | .clraccs _ => true
  | .fitacca _ => true
  | .fitaccb _ => true
  | .fitaccs _ => true
  | .sndser _ => true
  | .rcvser _ => true
  | .pushzc _ => true
  | .popzc _ => true
  | .subcnt _ => true
  | .getcnt _ => true
  | .getacca _ => true
  | .getaccb _ => true
  | .getlfsr _ => true
  | .gettops _ => true
  | .getptra _ => true
  | .getptrb _ => true
  | .getpix _ => true
  | .chkspd _ => true
  | .getspd _ => true
  | .chkspa _ => true
  | .getspa _ => true
  | .chkspb _ => true
  | .getspb _ => true
  | .popar _ => true
  | .popbr _ => true
  | .popa _ => true
  | .popb _ => true
  | .reta _ => true
  | .retb _ => true
  | .retad _ => true
  | .retbd _ => true
  | .decod5 _ => true
  | .decod4 _ => true
  | .decod3 _ => true
  | .decod2 _ => true
  | .blmask _ => true
  | .not _ => true
  | .onecnt _ => true
  | .zercnt _ => true
  | .incpat _ => true
  | .decpat _ => true
  | .bingry _ => true
  | .grybin _ => true
  | .mergew _ => true
  | .splitw _ => true
  | .seussf _ => true
  | .seussr _ => true
  | .getphsa _ => true
  | .getphza _ => true
  | .getcosa _ => true
  | .getsina _ => true
  | .getphsb _ => true
  | .getphzb _ => true
  | .getcosb _ => true
  | .getsinb _ => true
  | .jmptask _ => true
  | .nopx _ => true
  | .setzc _ => true
  | .setspa _ => true
  | .setspb _ => true
  | .addspa _ => true
  | .addspb _ => true
  | .subspa _ => true
  | .subspb _ => true
  | .pushar _ => true
  | .pushbr _ => true
  | .pusha _ => true
  | .pushb _ => true
  | .calla _ => true
  | .callb _ => true
  | .callad _ => true
  | .callbd _ => true
  | .wrquad _ => true
  | .rdquad _ => true
  | .rdquadc _ => true
  | .setptra _ => true
  | .setptrb _ => true
  | .addptra _ => true
  | .addptrb _ => true
  | .subptra _ => true
  | .subptrb _ => true
  | .setpix _ => true
  | .setpixu _ => true
  | .setpixv _ => true
  | .setpixz _ => true
  | .setpixa _ => true
  | .setpixr _ => true
  | .setpixg _ => true
  | .setpixb _ => true
  | .settask _ => true
  | .cfgdac0 _ => true
  | .cfgdac1 _ => true
  | .cfgdac2 _ => true
  | .cfgdac3 _ => true
  | .setdac0 _ => true
  | .setdac1 _ => true
  | .setdac2 _ => true
  | .setdac3 _ => true
  | .cfgdacs _ => true
  | .setdacs _ => true
  | .getp _ => true
  | .getpn _ => true
  | .offp _ => true
  | .notp _ => true
  | .clrp _ => true
  | .setp _ => true
  | .setpc _ => true
  | .setpnc _ => true
  | .setpz _ => true
  | .setpnz _ => true
  | .setmap _ => true
  | .setquad _ => true
  | .setquaz _ => true
  | .setport _ => true
  | .setpora _ => true
  | .setporb _ => true
  | .setporc _ => true
  | .setpord _ => true
  | .setxch _ => true
  | .setxfr _ => true
  | .setser _ => true
  | .setskip _ => true
  | .setvid _ => true
  | .setvidy _ => true
  | .setvidi _ => true
  | .setvidq _ => true
  | .setctra _ => true
  | .setwava _ => true
  | .setfrqa _ => true
  | .setphsa _ => true
  | .addphsa _ => true
  | .subphsa _ => true
  | .synctra _ => true
  | .capctra _ => true
  | .setctrb _ => true
  | .setwavb _ => true
  | .setfrqb _ => true
  | .setphsb _ => true
  | .addphsb _ => true
  | .subphsb _ => true
  | .synctrb _ => true
  | .capctrb _ => true
  | .isob _ => true
  | .notb _ => true
  | .clrb _ => true
  | .setb _ => true
  | .setbc _ => true
  | .setbnc _ => true
  | .setbz _ => true
  | .setbnz _ => true
  | .setacca _ => true
  | .setaccb _ => true
  | .maca _ => true
  | .macb _ => true
  | .mul _ => true
  | .scl _ => true
  | .setindaAddr _ => true
  | .setindaDelta _ => true
  | .setindbAddr _ => true
  | .setindbDelta _ => true
  | .setindsAddrAddr _ => true
  | .setindsAddrDelta _ => true
  | .setindsDeltaAddr _ => true
  | .setindsDeltaDelta _ => true
  | .fixinda _ => true
  | .fixindb _ => true
  | .fixinds _ => true
  | .enc _ => true
  | .jmpret _ => true
  | .ror _ => true
  | .rol _ => true
  | .shr _ => true
  | .shl _ => true
  | .rcr _ => true
  | .rcl _ => true
  | .sar _ => true
  | .rev _ => true
  | .mins _ => true
  | .maxs _ => true
  | .min _ => true
  | .max _ => true
  | .movs _ => true
  | .movd _ => true
  | .movi _ => true
  | .jmpretd _ => true
  | .and _ => true
  | .andn _ => true
  | .or _ => true
  | .xor _ => true
  | .muxc _ => true
  | .muxnc _ => true
  | .muxz _ => true
  | .muxnz _ => true
  | .add _ => true
  | .sub _ => true
  | .addabs _ => true
  | .subabs _ => true
  | .sumc _ => true
  | .sumnc _ => true
  | .sumz _ => true
  | .sumnz _ => true
  | .mov _ => true
  | .neg _ => true
  | .abs _ => true
  | .absneg _ => true
  | .negc _ => true
  | .negnc _ => true
  | .negz _ => true
  | .negnz _ => true
  | .cmps _ => true
  | .cmpsx _ => true
  | .addx _ => true
  | .subx _ => true
  | .adds _ => true
  | .subs _ => true
  | .addsx _ => true
  | .subsx _ => true
  | .subr _ => true
  | .cmpsub _ => true
  | .incmod _ => true
  | .decmod _ => true
  | .ijz _ => true
  | .ijzd _ => true
  | .ijnz _ => true
  | .ijnzd _ => true
  | .djz _ => true
  | .djzd _ => true
  | .djnz _ => true
  | .djnzd _ => true
  | .tjz _ => true
  | .tjzd _ => true
  | .tjnz _ => true
  | .tjnzd _ => true
  | .cfgpins _ => true
  | .waitvid _ => true
  | .waitcnt _ => true
  | .waitpeq _ => true
  | .waitpne _ => true
  | .setindaOld _ => false
  | .setindbOld _ => false
  | .setcog _ => false
  | .reps _ => false
  | .repd _ => false
  | .getmull _ => false
  | .getmulh _ => false
  | .getdivq _ => false
  | .getdivr _ => false
  | .getsqrt _ => false
  | .getqx _ => false
  | .getqy _ => false
  | .getqz _ => false
  | .polctra _ => false
  | .polctrb _ => false
  | .polvid _ => false
  | .passcnt _ => false
  | .jp _ => false
  | .jnp _ => false
  | .nop => false
  | .jmp _ => false
  | .jmpd _ => false
  | .call _ => false
  | .ret _ => false
  | .calld _ => false
  | .retd _ => false

/-- In the extended set, by the S field and bit 23: the D field is a register operand (R132). It is none
in the selector class $008, in CHKSPx and RETx, in SYNCTRx and CAPCTRx (which ignore it, R686) and in the
D/#n class with n = 1, which by R128 is $080 to $0FF, whether a row of R138 has the sub-opcode or not. A
sub-opcode outside it that no row has is under none of the exceptions of R132. -/
def extDRegister (s : BitVec 9) (r : Bool) : Bool :=
  let k := s.toNat
  if k == 0x008 then false
  else if 0x015 ≤ k && k ≤ 0x017 then r
  else if 0x01C ≤ k && k ≤ 0x01F then false
  else if k == 0x0F6 || k == 0x0F7 || k == 0x0FE || k == 0x0FF then false
  else if 0x080 ≤ k && k ≤ 0x0FF then !r
  else true

/-- The D field of `f` is a register operand (R132), where CCCC is no selector (R135). -/
def dIsRegister (f : Fields) : Bool := f.op != 0x03#6 || !f.i || extDRegister f.s f.r

/-- A register operand of `f` names INDA or INDB, so that CCCC may hold modifiers (R131, R132). Used
for a word that is no instruction (notes/assumptions/18.md, 20.md). -/
def mayReference (f : Fields) : Bool :=
  (dIsRegister f && isIndAddr f.d) || (!f.i && isIndAddr f.s)

/-- `w` lies where CCCC is a selector, not a condition (R135). -/
def selectorSpace (f : Fields) : Bool :=
  (f.op == 0x38#6 || f.op == 0x39#6) && !f.z && !f.c && !f.r && !f.i

/-- CCCC of `w` is a condition even if `w` is no instruction, so that a failing condition makes it a
NOP (R151, R158). -/
def conditionOfAnyWord (w : Word) : Option Cond :=
  let f := fieldsOf w
  if mayReference f || selectorSpace f then none else some f.cond

end Sys2Proof
end

