-- ==== Sys2Proof/Machine/Params.lean ====
section
/-!
DEFINITION. The open parameters of the spec (00_scope.md rule R6): first the default the spec gives
each (92_eei_decisions.md), which is no fact of the chip (notes/assumptions/11.md to 16.md, 27.md,
31.md, 37.md, 44.md, 56.md), then `Params`, the parameters as an argument. Every operation that
uses one takes it from its argument `P`, which is `Params.spec` where none is given.
-/
namespace Sys2Proof.Machine

/-- `CondTable` (R124, D1): execute iff CCCC[2*C + Z] = 1. -/
def condHolds (cond : BitVec 4) (z c : Bool) : Bool := cond.getLsbD (2 * c.toNat + z.toNat)

/-- The low 24 bits of a long, the width of the multiplier (R400). -/
def low24 (x : Word) : Nat := (x.extractLsb' 0 24).toNat

/-- The 48-bit unsigned product of R400. -/
def product (d s : Word) : BitVec 64 := BitVec.ofNat 64 (low24 d * low24 s)

/-- `MulFn` (R400, D20): the low long of the product. -/
def mulFn (d s : Word) : Word := (product d s).extractLsb' 0 32

/-- `SclFn` (R400, D21): bits 47:16 of the product. -/
def sclFn (d s : Word) : Word := (product d s).extractLsb' 16 32

/-- `MacFn` (R400, D27): the product, zero-extended to 64 bits. -/
def macFn (d s : Word) : BitVec 64 := product d s

/-- `EncFn` (R472, D22): position of the highest set bit plus one, 0 for 0. -/
def encFn (s : Word) : Word := if s = 0#32 then 0#32 else BitVec.ofNat 32 (1 + s.toNat.log2)

/-- `BlmaskFn` (R424, D23): 2^min(n,32) - 1. -/
def blmaskFn (n : BitVec 6) : Word := BitVec.ofNat 32 (2 ^ min n.toNat 32 - 1)

/-- Number of 1 bits (R9). -/
def popcount (x : Word) : Nat := (List.range 32).countP fun i => x.getLsbD i

/-- The lowest set bit, as a number; 0 for 0. -/
def lowestBit (x : Word) : Nat := (x &&& (-x)).toNat

/-- `IncpatFn` (R428, D24): the next value in numeric order with as many ones, and after the last
one the first. Adding the lowest set bit moves the lowest run of ones up by one; what the run
loses comes back at the bottom. -/
def incpatFn (d : Word) : Word :=
  let r := d.toNat + lowestBit d
  if d = 0#32 then 0#32
  else if r < 2 ^ 32 then BitVec.ofNat 32 (r ||| (d.toNat ^^^ r) / lowestBit d / 4)
  else BitVec.ofNat 32 (2 ^ popcount d - 1)

/-- `DecpatFn` (R429, D24): the previous value; complementing turns the order round. -/
def decpatFn (d : Word) : Word := ~~~(incpatFn (~~~d))

/-- `SeussF` (R434, D25): the generator of the unknown action. -/
def seussF (d : Word) : Word := Config.seussAction (Multiplicative.ofAdd 1) d

/-- `SeussR` (R435, D25). -/
def seussR (d : Word) : Word := Config.seussAction (Multiplicative.ofAdd (-1)) d

/-- `FitCount` (R405): how far a 64-bit value must go right to fit into 32 bits. -/
def fitCount (v : BitVec 64) : Nat :=
  if v.extractLsb' 32 32 = 0#32 then 0 else v.toNat.log2 - 31

/-- `TopsOrder` (R221, D9): QUAD0 in bits 7:0 .. QUAD3 in bits 31:24. -/
def topBytes (q : Bank 2 Word) : Word :=
  (q.rd 3#2).extractLsb' 24 8 ++ (q.rd 2#2).extractLsb' 24 8 ++
    (q.rd 1#2).extractLsb' 24 8 ++ (q.rd 0#2).extractLsb' 24 8

/-- `CallDReturnOffset` (R332, R564, D14). -/
def callDReturnOffset : RegAddr := 4#9

/-- `MinMaxZ` (R481): the Z of MINS, MAXS, MIN and MAX is "S is zero". -/
def minMaxZ (s : Word) : Bool := s == 0#32

/-- `WaitPort` (R597, D43): which of the windows PINA..PIND the pin waits test. -/
def waitPort : BitVec 2 := 0#2

/-- The lowest number of which `p` holds. -/
def lowestWhere (p : BitVec 3 → Bool) : Option (BitVec 3) :=
  ((List.range 8).map (BitVec.ofNat 3)).find? p

/-! ### The parameters as an argument (R6) -/

/-- `RomWritePolicy` (R87, D6): a HUB write into ROM is not admitted, and what that means. -/
inductive RomWritePolicy where
  /-- the model makes no statement about the run -/
  | refuse
  /-- the COG is stuck: it executes no more until it is started again -/
  | stuck
  deriving DecidableEq, Repr, Inhabited

/-- The open parameters the model takes as arguments (R6). The draws of LfsrNext (D26) and PinModel
(D30) are values of the environment, BootState (D2) is Sys2Proof/Machine/Parametric.lean. -/
structure Params where
  /-- `CondTable` (D1): does CCCC hold for Z, C? -/
  condTable         : BitVec 4 → Bool → Bool → Bool
  /-- `MulFn` (D20) -/
  mulFn             : Word → Word → Word
  /-- `SclFn` (D21) -/
  sclFn             : Word → Word → Word
  /-- `MacFn` (D27) -/
  macFn             : Word → Word → BitVec 64
  /-- `EncFn` (D22) -/
  encFn             : Word → Word
  /-- `BlmaskFn` (D23) -/
  blmaskFn          : BitVec 6 → Word
  /-- `IncpatFn` (D24) -/
  incpatFn          : Word → Word
  /-- `DecpatFn` (D24) -/
  decpatFn          : Word → Word
  /-- `SeussF` and `SeussR` (D25) with their two laws: an action of the cyclic group of order 32 -/
  seuss             : Multiplicative (ZMod 32) →* Equiv.Perm Word
  /-- `FitCount` (R405) -/
  fitCount          : BitVec 64 → Nat
  /-- `NextIdleCog` (D10): of the COGs that are idle, if there are any -/
  nextIdleCog       : (BitVec 3 → Bool) → Option (BitVec 3)
  /-- `NextFreeLock` (D11): of the locks that are free, if there are any -/
  nextFreeLock      : (BitVec 3 → Bool) → Option (BitVec 3)
  /-- `TopsOrder` (D9): the long that GETTOPS makes of the four QUADs -/
  topsOrder         : Bank 2 Word → Word
  /-- `CallDReturnOffset` (D14) -/
  callDReturnOffset : RegAddr
  /-- `MinMaxZ` (R481): the Z of MINS, MAXS, MIN and MAX, from S and the result -/
  minMaxZ           : Word → Word → Bool
  /-- `WaitPort` (D43) -/
  waitPort          : BitVec 2
  /-- `RomWritePolicy` (D6) -/
  romWrite          : RomWritePolicy

/-- `SeussF` (R434). -/
def Params.seussF (P : Params) (d : Word) : Word := P.seuss (Multiplicative.ofAdd 1) d

/-- `SeussR` (R435). -/
def Params.seussR (P : Params) (d : Word) : Word := P.seuss (Multiplicative.ofAdd (-1)) d

/-- The parameters at the spec's defaults. -/
def Params.spec : Params where
  condTable := Machine.condHolds
  mulFn := Machine.mulFn
  sclFn := Machine.sclFn
  macFn := Machine.macFn
  encFn := Machine.encFn
  blmaskFn := Machine.blmaskFn
  incpatFn := Machine.incpatFn
  decpatFn := Machine.decpatFn
  seuss := Config.seussAction
  fitCount := Machine.fitCount
  nextIdleCog := lowestWhere
  nextFreeLock := lowestWhere
  topsOrder := topBytes
  callDReturnOffset := Machine.callDReturnOffset
  minMaxZ := fun s _ => Machine.minMaxZ s
  waitPort := Machine.waitPort
  romWrite := .refuse

end Sys2Proof.Machine
end

