-- ==== Sys2Proof/Machine/State.lean ====
section
/-!
DEFINITION. The state of the chip (10_state.md), why a step can stop, and the state after reset.
The groups of registers are in Sys2Proof/Machine/Types.lean.
-/
namespace Sys2Proof.Machine

/-- Faults of the machine: there are none. The hardware has no exception, interrupt or trap, and
every instruction completes (60_exceptions.md rules R720 to R726). -/
inductive Fault where
  deriving DecidableEq, Repr

/-- Why the model makes no statement about a run: the spec gives the word or the situation no
meaning (60_exceptions.md rule R721). Each of them is SAFE: the model stops where the hardware
does something that is not known. -/
inductive Refusal where
  /-- raised by an arm of exec: the instruction has no meaning yet. Safe. -/
  | notModelled (mnemonic : String)
  /-- raised by the step: the long at the program counter is no instruction (R150, D4, D16, D18).
  Safe. -/
  | badWord (e : DecodeError)
  /-- raised by the step: instruction fetch at $1F6..$1FF (R22, D12). Safe. -/
  | fetchSpecial
  /-- raised by the step: the long was written in one of the two instruction slots before (R771,
  U5). Safe. -/
  | modifiedTooRecently
  /-- raised by the step and by register reads: a mapped QUAD is executed or read too soon after it
  was filled or mapped (R775 to R777, U6). Safe. -/
  | quadTooSoon
  /-- raised by the HUB writes: the address lies in ROM (R87, D6). Safe. -/
  | romWrite
  /-- raised by SETQUAD and SETQUAZ: a base in $1F3..$1F7 (R222, D34). Safe. -/
  | quadBase
  /-- raised by CLKSET: the selected clock source is disabled (R245, U8). Safe. -/
  | clockSource
  /-- raised by SETMAP (R640, U20). Safe. -/
  | registerRemap
  /-- raised by SETXFR (R631, U20). Safe. -/
  | dataStreamer
  /-- raised by the older SETINDA and SETINDB (R590). Safe. -/
  | supersededWord
  /-- raised by GETMULL to GETQZ: they read units of which the spec gives nothing (R41). Safe. -/
  | mathUnit
  deriving DecidableEq, Repr

/-- The state of the chip (R20), with the values the environment shows in this step. -/
structure State where
  /-- HUB memory: (address, byte) pairs, addresses strictly rising, only RAM addresses, no byte
  that an unlisted address reads as (R49) -/
  mem    : List Host.Cell
  /-- the eight locks (R50) -/
  locks  : Bank 3 Lock
  /-- CLK (R51) -/
  clk    : BitVec 9
  /-- CNT (R38) -/
  cnt    : BitVec 64
  /-- PINCFG[p] (R53) -/
  pinCfg : Bank 7 (BitVec 13)
  /-- the eight COGs (R20) -/
  cogs   : Bank 3 Cog
  /-- what the environment shows in this step (the model's own) -/
  inputs : Inputs
  /-- the COG that steps next (the model's own; R90) -/
  turn   : CogId
  /-- number of the step, for fresh draws (the model's own) -/
  tick   : Nat
  deriving DecidableEq, Repr

/-- The start values of the four tasks (R26). -/
def startTasks : Bank 2 TaskRegs :=
  #v[⟨false, false, 0#9, 0, []⟩, ⟨false, false, 1#9, 0, []⟩,
     ⟨false, false, 2#9, 0, []⟩, ⟨false, false, 3#9, 0, []⟩]

/-- PORA..PORD at COG start (R54, D44). -/
def startPorts : Bank 2 (BitVec 2) := #v[0#2, 1#2, 2#2, 3#2]

/-- An age that no hazard rule reaches (R780). -/
def longAgo : Nat := 5

/-- A QUAD base address that hides the QUADs (R33). -/
def hiddenBase : RegAddr := 0x1F8#9

/-- A COG right after chip reset: the values of R54 where it gives one, zero elsewhere
(notes/assumptions/3.md). -/
def resetCog : Cog where
  run := .idle
  ram := Vector.replicate _ 0#32
  stk := Vector.replicate _ 0#32
  tasks := startTasks
  task := 0#32
  taskWrites := []
  cur := 0#2
  stalled := false
  held := none
  ptra := 0#17
  ptrb := 0#17
  spa := 0#8
  spb := 0#8
  inda := ⟨0#9, 0#9, 0#9⟩
  indb := ⟨0#9, 0#9, 0#9⟩
  quads := Vector.replicate _ 0#32
  qbase := hiddenBase
  qvalid := false
  qtag := 0#13
  fillAge := longAgo
  mapAge := longAgo
  acca := 0#64
  accb := 0#64
  accaPhase := false
  accbPhase := false
  cntl := 0#64
  cntPhase := false
  math := ⟨0#32, 0#32, 0#32, 0#32, 0#32, 0#32, 0#32, 0#32⟩
  cogsel := 0#4
  ctra := ⟨0#32, 0#32, 0#32, 0#32, false⟩
  ctrb := ⟨0#32, 0#32, 0#32, 0#32, false⟩
  cfgdac := Vector.replicate _ 0#2
  dacval := Vector.replicate _ 0#18
  video := ⟨0#32, 0#32, 0#32, 0#32, 0#32, 0#32, false⟩
  pixel := ⟨0#32, 0#32, 0#32, 0#32, 0#32, 0#32, 0#32, 0#32⟩
  xfr := 0#6
  ser := 0#32
  serTx := 0#32
  map := 0#6
  xch := 0#32
  portsel := 0#2
  por := startPorts
  out := 0#128
  dir := 0#128
  skip := 0#32
  skipTask := 0#2
  rep := ⟨0#32, 0#5, 0#9, 0#2⟩
  nops := 0#32
  wrote0 := none
  wrote1 := none
  wrote2 := none

/-- The machine right after reset: COG 0 runs as just started with the parameter 0 and a program that
lies at the start of HUB RAM, the other COGs are idle (R760, D2; notes/assumptions/1.md). -/
def State.reset : State where
  mem := []
  locks := Vector.replicate _ ⟨false, false⟩
  clk := 0#9
  cnt := 0#64
  pinCfg := Vector.replicate _ 0#13
  cogs := Bank.wr (Vector.replicate _ resetCog) 0#3
    { resetCog with run := .running, ptrb := 0x00E80#17 }
  inputs := ⟨0#128, 0#32, false, false, 0#32, false, 0#32, 0#32, 0#32, 0#32, 0#32, 0#32, 0#32,
    false, false, false, false, 0#32⟩
  turn := 0#3
  tick := 0

end Sys2Proof.Machine
end

