-- ==== Sys2Proof/Machine/Ops.lean ====
section
/-!
DEFINITION. The named operations over the state: HUB memory (20_memory.md), the register read and
write paths (10_state.md R22 to R36), flags, the program counter and branches (48_branch_wait.md
R560, R561), stack RAM, the QUAD cache, the start of a COG (42_hub_control.md R241) and the reset
of the chip (70_reset_and_hazards.md R761).

The hardware has no exception and no return from one (60_exceptions.md R720, R725), so there is no
operation that takes one.
-/
namespace Sys2Proof.Machine

/-! ### HUB memory -/

/-- First address of HUB RAM; below it lies ROM (R81). -/
def ramStart : Nat := 0xE80

/-- The 32 bytes at $00000..$0001F (95_test_vectors.md E1). -/
def romListed : List Byte :=
  [0x50#8, 0x72#8, 0x6F#8, 0x70#8, 0x32#8, 0x2E#8, 0x30#8, 0x20#8,
   0x00#8, 0x20#8, 0x7C#8, 0x0C#8, 0x03#8, 0xCC#8, 0x7C#8, 0x0C#8,
   0x45#8, 0xFE#8, 0xC1#8, 0x0D#8, 0xE3#8, 0xB6#8, 0xFC#8, 0x0C#8,
   0x01#8, 0xC6#8, 0x7C#8, 0x0C#8, 0x01#8, 0xC6#8, 0x7C#8, 0x0D#8]

/-- What an address that memory does not list reads as: the listed ROM bytes, the unknown rest of
ROM, and 0 in RAM (notes/assumptions/4.md, 5.md). -/
def unlistedByte (a : Nat) : Byte :=
  if a < 0x20 then romListed.getD a 0#8 else if a < ramStart then Config.romByte a else 0#8

/-- The byte listed for an address. -/
def cellLookup : List Host.Cell → Nat → Option Byte
  | [], _ => none
  | (b, v) :: rest, a => if a = b then some v else cellLookup rest a

/-- Memory with the RAM byte at `a` set to `v`, in canonical form. -/
def cellSet : List Host.Cell → Nat → Byte → List Host.Cell
  | [], a, v => if v = 0#8 then [] else [(a, v)]
  | (b, w) :: rest, a, v =>
    if a < b then (if v = 0#8 then (b, w) :: rest else (a, v) :: (b, w) :: rest)
    else if a = b then (if v = 0#8 then rest else (a, v) :: rest)
    else (b, w) :: cellSet rest a v

/-- The canonical form of memory: addresses strictly rising, all of them RAM addresses, no byte
that an unlisted address reads as. -/
def Memory.wf : List Host.Cell → Bool
  | [] => true
  | [(a, v)] => decide (ramStart ≤ a) && decide (a < 2 ^ 17) && v != 0#8
  | (a, v) :: (b, w) :: rest =>
    decide (ramStart ≤ a) && decide (a < b) && v != 0#8 && Memory.wf ((b, w) :: rest)

/-- Read of one byte (R85). -/
def readByte (m : List Host.Cell) (a : HubAddress) : Byte :=
  (cellLookup m a.toNat).getD (unlistedByte a.toNat)

/-- Write of one byte (R86). ROM is never written (R87). -/
def writeByte (m : List Host.Cell) (a : HubAddress) (v : Byte) : List Host.Cell :=
  if a.toNat < ramStart then m else cellSet m a.toNat v

/-- `Align`: the low `k` bits of the address cleared (R83). -/
def alignTo (k : Nat) (a : HubAddress) : HubAddress := (a >>> k) <<< k

/-- `MemRead(addr, 1)`, `MemRead(addr, 2)`, `MemRead(addr, 4)` (R84, R85). -/
def memRead1 (m : List Host.Cell) (a : HubAddress) : BitVec 8 := readByte m a

def memRead2 (m : List Host.Cell) (a : HubAddress) : BitVec 16 :=
  let b := alignTo 1 a
  readByte m (b + 1#17) ++ readByte m b

def memRead4 (m : List Host.Cell) (a : HubAddress) : Word :=
  let b := alignTo 2 a
  readByte m (b + 3#17) ++ readByte m (b + 2#17) ++ readByte m (b + 1#17) ++ readByte m b

/-- `MemWrite(addr, 1, v)`, `MemWrite(addr, 2, v)`, `MemWrite(addr, 4, v)` (R84, R86). -/
def memWrite1 (m : List Host.Cell) (a : HubAddress) (v : BitVec 8) : List Host.Cell :=
  writeByte m a v

def memWrite2 (m : List Host.Cell) (a : HubAddress) (v : BitVec 16) : List Host.Cell :=
  let b := alignTo 1 a
  writeByte (writeByte m b (v.extractLsb' 0 8)) (b + 1#17) (v.extractLsb' 8 8)

def memWrite4 (m : List Host.Cell) (a : HubAddress) (v : Word) : List Host.Cell :=
  let b := alignTo 2 a
  writeByte (writeByte (writeByte (writeByte m b (v.extractLsb' 0 8))
    (b + 1#17) (v.extractLsb' 8 8)) (b + 2#17) (v.extractLsb' 16 8)) (b + 3#17) (v.extractLsb' 24 8)

/-- Long `k` of the quad at `a` (R84, D38; notes/assumptions/68.md). -/
def quadLong (m : List Host.Cell) (a : HubAddress) (k : BitVec 2) : Word :=
  memRead4 m (alignTo 4 a + (k.setWidth 17 <<< 2))

/-- `MemWrite` of the four QUADs (R190). -/
def memWriteQuad (m : List Host.Cell) (a : HubAddress) (q : Bank 2 Word) : List Host.Cell :=
  let b := alignTo 4 a
  memWrite4 (memWrite4 (memWrite4 (memWrite4 m b (q.rd 0#2)) (b + 4#17) (q.rd 1#2))
    (b + 8#17) (q.rd 2#2)) (b + 12#17) (q.rd 3#2)

/-- The address lies in ROM (R81). -/
def inRom (a : HubAddress) : Bool := decide (a.toNat < ramStart)

/-! ### The executing COG -/

/-- The COG that executes in this step. -/
def State.cog (s : State) : Cog := s.cogs.rd s.turn

def State.setCog (s : State) (c : Cog) : State := { s with cogs := s.cogs.wr s.turn c }

/-- What a meaning answers. -/
abbrev Result := Host.Outcome State Fault Refusal

/-- The executing task's Z, C, PC. -/
def Cog.tsk (c : Cog) : TaskRegs := c.tasks.rd c.cur

def Cog.setTsk (c : Cog) (t : TaskRegs) : Cog := { c with tasks := c.tasks.wr c.cur t }

/-- Flags of the executing task (R26). -/
def Cog.flagZ (c : Cog) : Bool := c.tsk.z
def Cog.flagC (c : Cog) : Bool := c.tsk.c

/-- Address of the executing instruction. -/
def Cog.pcNow (c : Cog) : RegAddr := c.tsk.pc

/-! ### Registers -/

/-- `QuadMapped` (R33). -/
def quadMapped (c : Cog) : Bool := decide (c.qbase.toNat < 0x1F8)

/-- Which QUAD lies over register `a`, if one does (R22, R36). -/
def quadIndex (c : Cog) (a : RegAddr) : Option (BitVec 2) :=
  if quadMapped c && decide (c.qbase.toNat ≤ a.toNat) && decide (a.toNat < c.qbase.toNat + 4) then
    some ((a - c.qbase).extractLsb' 0 2)
  else none

/-- The special registers PINA..PIND, DIRA..DIRD (R23). -/
def isSpecial (a : RegAddr) : Bool := decide (0x1F8 ≤ a.toNat)

/-- The 32 pins of port `p` (R615). -/
def portWindow (x : BitVec 128) (p : BitVec 2) : Word := x.extractLsb' (32 * p.toNat) 32

/-- `x` with the 32 pins of port `p` set to `v` (R615). -/
def setPortWindow (x : BitVec 128) (p : BitVec 2) (v : Word) : BitVec 128 :=
  (x &&& ~~~((BitVec.allOnes 32).setWidth 128 <<< (32 * p.toNat))) |||
    (v.setWidth 128 <<< (32 * p.toNat))

/-- Special read (R24, R615): pin inputs for PINx, direction bits for DIRx. -/
def readSpecial (inp : Inputs) (c : Cog) (a : RegAddr) : Word :=
  let p := c.por.rd (a.extractLsb' 0 2)
  if a.getLsbD 2 then portWindow c.dir p else portWindow inp.pinIn p

/-- Special write (R24, R615): output latches for PINx, direction bits for DIRx. -/
def writeSpecial (c : Cog) (a : RegAddr) (v : Word) : Cog :=
  let p := c.por.rd (a.extractLsb' 0 2)
  if a.getLsbD 2 then { c with dir := setPortWindow c.dir p v }
  else { c with out := setPortWindow c.out p v }

/-- `x[a]` (R22). -/
def readReg (inp : Inputs) (c : Cog) (a : RegAddr) : Word :=
  match quadIndex c a with
  | some k => c.quads.rd k
  | none => if isSpecial a then readSpecial inp c a else c.ram.rd a

/-- The QUAD over register `a`, if one lies there, set to `v` (R22, R36). -/
def writeQuadOver (c : Cog) (a : RegAddr) (v : Word) : Cog :=
  match quadIndex c a with
  | some k => { c with quads := c.quads.wr k v }
  | none => c

/-- `x[a] <- v` (R22), with the note that the hazard rule R771 needs. -/
def writeReg (c : Cog) (a : RegAddr) (v : Word) : Cog :=
  let c1 := { writeQuadOver c a v with wrote0 := some a }
  if isSpecial a then writeSpecial c1 a v else { c1 with ram := c1.ram.wr a v }

/-- The register is a mapped QUAD whose contents cannot be read yet (R775, R777, R780). -/
def quadHazard (c : Cog) (a : RegAddr) : Bool :=
  (quadIndex c a).isSome && (decide (c.fillAge < 4) || decide (c.mapAge < 3))

/-! ### Results and flags (R126) -/

/-- `WriteD(v)`. -/
def writeD (r : Bool) (a : RegAddr) (v : Word) (c : Cog) : Cog := if r then writeReg c a v else c

/-- `WriteZ(b)`. -/
def writeZ (z : Bool) (b : Bool) (c : Cog) : Cog :=
  if z then c.setTsk { c.tsk with z := b } else c

/-- `WriteC(b)`. -/
def writeC (w : Bool) (b : Bool) (c : Cog) : Cog :=
  if w then c.setTsk { c.tsk with c := b } else c

/-! ### Program counter and branches -/

/-- The address after `pc`, or the start of the repeated block when `pc` is its last instruction and
passes remain; and the repeat unit after that (R25, R454). The block repeats only for the task that executed
REPS or REPD; that another task runs through its end unaffected is the model's choice
(notes/assumptions/38.md). -/
def nextPc (c : Cog) : RegAddr × Rep :=
  let r := c.rep
  if r.count ≠ 0#32 ∧ r.task = c.cur ∧ c.pcNow = r.start + r.len.setWidth 9 - 1#9 then
    (if r.count = 1#32 then c.pcNow + 1#9 else r.start, { r with count := r.count - 1#32 })
  else (c.pcNow + 1#9, r)

/-- The part of every instruction slot that executes, is skipped or fails its condition: the PC moves
on (R25), the phases of GETCNT, GETACCA, GETACCB are reset (R401), and what a wait held is let go. -/
def advance (c : Cog) : Cog :=
  { c.setTsk { c.tsk with pc := (nextPc c).1 } with
    rep := (nextPc c).2, cntPhase := false, accaPhase := false, accbPhase := false, held := none }

/-- Normal branch of task `k`: `pc <- target` (R560). -/
def jumpTask (k : TaskId) (target : RegAddr) (c : Cog) : Cog :=
  { c with tasks := c.tasks.wr k { c.tasks.rd k with pc := target, flush := 3, delayed := [] } }

/-- Normal branch of the executing task (R560). -/
def jump (target : RegAddr) (c : Cog) : Cog := jumpTask c.cur target c

/-- Delayed branch of the executing task: `pc <-d target` (R561). -/
def jumpDelayed (target : RegAddr) (c : Cog) : Cog :=
  c.setTsk { c.tsk with delayed := c.tsk.delayed ++ [⟨target, 3⟩] }

/-- The branch an instruction makes: normal or delayed, if its test holds. -/
def branchIf (b delayed : Bool) (target : RegAddr) (c : Cog) : Cog :=
  if b then (if delayed then jumpDelayed target c else jump target c) else c

/-! ### Stack RAM (R100, R340, R341) -/

/-- A read of stack RAM: a draw while the video generator is in use (R100). -/
def readStack (inp : Inputs) (c : Cog) (a : BitVec 8) : Word :=
  if c.video.inUse then inp.stkDraw else c.stk.rd a

/-- SPA or SPB. -/
def Cog.sp (c : Cog) : Ind → BitVec 8
  | .a => c.spa
  | .b => c.spb

def Cog.setSp (c : Cog) (x : Ind) (v : BitVec 8) : Cog :=
  match x with
  | .a => { c with spa := v }
  | .b => { c with spb := v }

/-- `[SPx++] <- v`. -/
def pushUp (x : Ind) (v : Word) (c : Cog) : Cog :=
  { c with stk := c.stk.wr (c.sp x) v }.setSp x (c.sp x + 1#8)

/-- `[--SPx] <- v`. -/
def pushDown (x : Ind) (v : Word) (c : Cog) : Cog :=
  { c with stk := c.stk.wr (c.sp x - 1#8) v }.setSp x (c.sp x - 1#8)

/-- The long a call stores (R341). -/
def callFrame (z c : Bool) (pc : RegAddr) : Word :=
  0#21 ++ BitVec.ofBool z ++ BitVec.ofBool c ++ pc

/-! ### The QUAD cache (R173) -/

/-- `Hit(EA)`. -/
def cacheHit (c : Cog) (ea : HubAddress) : Bool := c.qvalid && c.qtag == ea.extractLsb' 4 13

/-- `Fill(EA)`. -/
def cacheFill (m : List Host.Cell) (ea : HubAddress) (c : Cog) : Cog :=
  { c with
    quads := #v[quadLong m ea 0#2, quadLong m ea 1#2, quadLong m ea 2#2, quadLong m ea 3#2]
    qtag := ea.extractLsb' 4 13
    qvalid := true
    fillAge := 0 }

/-- `if not Hit(EA): Fill(EA)`. -/
def cacheLoad (m : List Host.Cell) (ea : HubAddress) (c : Cog) : Cog :=
  if cacheHit c ea then c else cacheFill m ea c

/-- `CacheByte(k)`. -/
def cacheByte (c : Cog) (k : BitVec 4) : Byte :=
  (c.quads.rd (k.extractLsb' 2 2)).extractLsb' (8 * (k.extractLsb' 0 2).toNat) 8

/-! ### COG start and chip reset -/

/-- Number of longs a COG start loads, $1F8 (R6, R241). -/
def loadSize : Nat := 0x1F8

/-- The registers a COG start loads (R241). -/
def allLoads : List RegAddr := (List.range loadSize).map (BitVec.ofNat 9)

/-- `new` with what is remembered of the COG's devices: whether its counters have been started (R688)
and its video generator has been used (R100). No start and no reset makes this undone. -/
def keepUses (old new : Cog) : Cog :=
  { new with
    ctra := { new.ctra with running := old.ctra.running }
    ctrb := { new.ctrb with running := old.ctrb.running }
    video := { new.video with inUse := old.video.inUse } }

/-- A COG just started, up to the load itself (R241, R762); what R54 leaves unspecified is `free`'s. -/
def startFrom (free : Cog) (a p : HubAddress) : Cog :=
  { free with
    run := .loading allLoads a
    tasks := startTasks
    task := 0#32
    taskWrites := []
    cur := 0#2
    stalled := false
    held := none
    ptra := p
    ptrb := a
    quads := Vector.replicate _ 0#32
    qbase := hiddenBase
    qvalid := false
    fillAge := longAgo
    mapAge := longAgo
    accaPhase := false
    accbPhase := false
    cntPhase := false
    cogsel := 0#4
    por := startPorts
    skip := 0#32
    rep := ⟨0#32, 0#5, 0#9, 0#2⟩
    nops := 0#32
    wrote0 := none
    wrote1 := none
    wrote2 := none }

/-- `Start(n, a, p)` as far as the own state of COG n, `old`, goes, up to the load itself (R241, R762).
What R54 leaves unspecified is free. -/
def startedCog (tick : Nat) (old : Cog) (a p : HubAddress) : Cog :=
  startFrom (keepUses old (Config.cogAtStart tick)) a p

/-- `Start(n, a, p)` (R241). -/
def startCog (n : CogId) (a p : HubAddress) (s : State) : State :=
  { s with cogs := s.cogs.wr n (startedCog s.tick (s.cogs.rd n) a p) }

/-- One of the reads of a COG start whose longs `left` are still to be read from the block at `a`: the
long for register `k` (R95, R241). -/
def loadLong (m : List Host.Cell) (k : RegAddr) (left : List RegAddr) (a : HubAddress) (c : Cog) :
    Cog :=
  { c with
    ram := c.ram.wr k (memRead4 m (a + (k.setWidth 17 <<< 2)))
    run := if left.erase k = [] then .running else .loading (left.erase k) a }

/-- A COG does nothing (R52). -/
def isIdle (c : Cog) : Bool := c.run == .idle

/-- `NextIdleCog()` (R241, D10): the lowest idle one. -/
def nextIdleCog (s : State) (P : Params := .spec) : Option CogId := P.nextIdleCog fun n => isIdle (s.cogs.rd n)

/-- `NextFreeLock()` (R248, D11): the lowest one not taken. -/
def nextFreeLock (s : State) (P : Params := .spec) : Option (BitVec 3) := P.nextFreeLock fun k => !(s.locks.rd k).taken

/-- Memory that holds `cells`, in canonical form. -/
def memoryOf (cells : List Host.Cell) : List Host.Cell :=
  cells.foldl (fun m x => writeByte m (BitVec.ofNat 17 x.1) x.2) []

/-- The chip after a hardware reset (R761): every COG idle, CLK clear, everything else free. -/
def chipReset (s : State) : State :=
  { s with
    mem := memoryOf (Config.cellsAfterReset s.tick)
    locks := Vector.ofFn fun k => Config.lockAfterReset s.tick (BitVec.ofFin k)
    clk := 0#9
    cnt := Config.cntAfterReset s.tick
    pinCfg := Vector.ofFn fun p => Config.pinCfgAfterReset s.tick (BitVec.ofFin p)
    cogs := Vector.ofFn fun n =>
      { keepUses s.cogs[n] (Config.cogAfterReset s.tick (BitVec.ofFin n)) with
        run := .idle, stalled := false, held := none } }

/-! ### Waiting (R595) -/

/-- The instruction cannot complete yet: nothing changes but the note that the COG stalls. -/
def stall (s : State) : State := s.setCog { s.cog with stalled := true }

/-- What the executing instruction took along from stage 3: what it took when its wait began, or, where
it begins now, the operands as they are (R130, R595). `half` says which half of CNT a WAITCNT tests. -/
def heldOr (s : State) (dv sv : Word) (half : Option Bool := none) : Held :=
  s.cog.held.getD ⟨dv, sv, half⟩

/-- An instruction with operands cannot complete yet: it keeps what it took along. -/
def stallWith (h : Held) (s : State) : State := s.setCog { s.cog with stalled := true, held := some h }

end Sys2Proof.Machine
end

