-- ==== Sys2Proof/Machine/Operands.lean ====
section
/-!
DEFINITION. The operand forms and the frame every instruction runs in (30_encoding.md R124 to R134,
43_indirect.md R271 to R275): resolve the references, test the condition, move the PC on, read
the operands, then the instruction's own effect.
-/
namespace Sys2Proof.Machine

/-! ### INDA and INDB -/

/-- `Inc(P)` (R272). -/
def indInc (p : IndPtr) : RegAddr := if p.ptr = p.top then p.bot else p.ptr + 1#9

/-- `Dec(P)` (R273). -/
def indDec (p : IndPtr) : RegAddr := if p.ptr = p.bot then p.top else p.ptr - 1#9

/-- The address a reference with modifier `m` uses (R271, R274). -/
def indAddr (p : IndPtr) (m : BitVec 2) : RegAddr := if m = 3#2 then indInc p else p.ptr

/-- The pointer after a reference with modifier `m` (R274). -/
def indAfter (p : IndPtr) (m : BitVec 2) : IndPtr :=
  if m = 0#2 then p
  else if m = 2#2 then { p with ptr := indDec p }
  else { p with ptr := indInc p }

/-- The register number an operand names (R131, R271). -/
def regAddr (c : Cog) : Reg → RegAddr
  | .dir a => a
  | .ind .a m => indAddr c.inda m
  | .ind .b m => indAddr c.indb m

/-- The modifier an operand applies to the pointer of `x`; 00 if it does not name it. -/
def modFor (x : Ind) : Reg → BitVec 2
  | .dir _ => 0#2
  | .ind y m => if x = y then m else 0#2

/-- Both pointers after the references of D and S; where both name the same pointer the modifiers are
OR'd (R274, R275). -/
def stepPointers (d s : Reg) (c : Cog) : Cog :=
  { c with
    inda := indAfter c.inda (modFor .a d ||| modFor .a s)
    indb := indAfter c.indb (modFor .b d ||| modFor .b s) }

/-- An operand that is no reference. -/
def noReg : Reg := .dir 0#9

def srcReg : Src → Reg
  | .reg x => x
  | .imm _ => noReg

def dimmReg : DImm → Reg
  | .reg x => x
  | .imm _ => noReg

def hubReg : HubOperand → Reg
  | .reg x => x
  | .ptr _ => noReg

/-! ### Values -/

/-- `Sv` (R127). -/
def srcValue (inp : Inputs) (c : Cog) : Src → Word
  | .reg x => readReg inp c (regAddr c x)
  | .imm n => n.setWidth 32

/-- The operand of the D/#n class, whose immediate is `w` bits wide (R128, R129). -/
def dimmValue (w : Nat) (inp : Inputs) (c : Cog) : DImm → Word
  | .reg x => readReg inp c (regAddr c x)
  | .imm n => (n.setWidth w).setWidth 32

/-- `X` of a PTR expression: the index times SCALE, where SCALE is `2 ^ k` (R134). -/
def ptrOffset (k : Nat) (e : PtrExpr) : HubAddress := e.index.signExtend 17 <<< k

/-- The pointer a PTR expression names (R134). -/
def ptrBase (c : Cog) (e : PtrExpr) : HubAddress := if e.useB then c.ptrb else c.ptra

/-- The address of a PTR expression (R134). -/
def ptrAddr (k : Nat) (c : Cog) (e : PtrExpr) : HubAddress :=
  if e.post then ptrBase c e else ptrBase c e + ptrOffset k e

/-- The COG after a PTR expression (R134). -/
def ptrAfter (k : Nat) (e : PtrExpr) (c : Cog) : Cog :=
  if e.upd then
    (if e.useB then { c with ptrb := c.ptrb + ptrOffset k e }
     else { c with ptra := c.ptra + ptrOffset k e })
  else c

/-- `EA` of a HUB memory instruction of `2 ^ k` bytes (R171). -/
def hubAddr (k : Nat) (inp : Inputs) (c : Cog) : HubOperand → HubAddress
  | .reg x => (readReg inp c (regAddr c x)).extractLsb' 0 17
  | .ptr e => ptrAddr k c e

/-- The pointer update of a HUB address operand (R171). -/
def hubAfter (k : Nat) : HubOperand → Cog → Cog
  | .reg _, c => c
  | .ptr e, c => ptrAfter k e c

/-! ### Hazards of reading -/

def regHazard (c : Cog) (x : Reg) : Bool := quadHazard c (regAddr c x)

def srcHazard (c : Cog) : Src → Bool
  | .reg x => regHazard c x
  | .imm _ => false

def dimmHazard (c : Cog) : DImm → Bool
  | .reg x => regHazard c x
  | .imm _ => false

def hubHazard (c : Cog) : HubOperand → Bool
  | .reg x => regHazard c x
  | .ptr _ => false

/-! ### The frame of an instruction -/

/-- The instruction executes: it has a reference (R131, R276), or its condition holds (R124). -/
def executes (c : Cog) (cond : Cond) (ind : Bool) (P : Params := .spec) : Bool :=
  ind || P.condTable cond c.flagZ c.flagC

/-- The slot of an instruction that does not execute (R124). -/
def skipSlot (s : State) : State := s.setCog (advance s.cog)

/-- The COG with the references of `d` and `x` done and the PC moved on. -/
def enter (d x : Reg) (c : Cog) : Cog := advance (stepPointers d x c)

/-- An effect on the executing COG alone. -/
def onCog (f : Cog → Cog) (s : State) : Result := .next (s.setCog (f s.cog))

/-- An instruction without register operands. -/
def runPlain (cond : Cond) (s : State) (k : State → Result) (P : Params := .spec) : Result :=
  if executes (P := P) s.cog cond false then k (skipSlot s) else .next (skipSlot s)

/-- An instruction whose only operand is the register D; `reads` says whether it reads it. The effect
gets `Da` and `Dv`. -/
def runD (reads : Bool) (cond : Cond) (d : Reg) (s : State)
    (k : RegAddr → Word → State → Result) (P : Params := .spec) : Result :=
  if executes (P := P) s.cog cond d.isInd then
    if reads && regHazard s.cog d then .refused .quadTooSoon
    else k (regAddr s.cog d) (readReg s.inputs s.cog (regAddr s.cog d))
      (s.setCog (enter d noReg s.cog))
  else .next (skipSlot s)

/-- A D,S instruction. The effect gets `Da`, `Dv` and `Sv`. -/
def runDS (reads : Bool) (cond : Cond) (d : Reg) (x : Src) (s : State)
    (k : RegAddr → Word → Word → State → Result) (P : Params := .spec) : Result :=
  if executes (P := P) s.cog cond (d.isInd || x.isInd) then
    if (reads && regHazard s.cog d) || srcHazard s.cog x then .refused .quadTooSoon
    else k (regAddr s.cog d) (readReg s.inputs s.cog (regAddr s.cog d))
      (srcValue s.inputs s.cog x) (s.setCog (enter d (srcReg x) s.cog))
  else .next (skipSlot s)

/-- A D/#n instruction whose immediate is `w` bits wide. The effect gets the operand's value. -/
def runDn (w : Nat) (cond : Cond) (d : DImm) (s : State) (k : Word → State → Result) (P : Params := .spec) : Result :=
  if executes (P := P) s.cog cond d.isInd then
    if dimmHazard s.cog d then .refused .quadTooSoon
    else k (dimmValue w s.inputs s.cog d) (s.setCog (enter (dimmReg d) noReg s.cog))
  else .next (skipSlot s)

/-- A HUB memory instruction of `2 ^ k` bytes with a data register. The effect gets `EA`, `Da` and
`Dv`. -/
def runHub (k : Nat) (reads : Bool) (cond : Cond) (d : Reg) (x : HubOperand) (s : State)
    (body : HubAddress → RegAddr → Word → State → Result) (P : Params := .spec) : Result :=
  if executes (P := P) s.cog cond (d.isInd || x.isInd) then
    if (reads && regHazard s.cog d) || hubHazard s.cog x then .refused .quadTooSoon
    else body (hubAddr k s.inputs s.cog x) (regAddr s.cog d)
      (readReg s.inputs s.cog (regAddr s.cog d))
      (s.setCog (hubAfter k x (enter d (hubReg x) s.cog)))
  else .next (skipSlot s)

/-- A QUAD instruction (R171). The effect gets `EA`. -/
def runQuad (cond : Cond) (x : HubOperand) (s : State) (body : HubAddress → State → Result) (P : Params := .spec) :
    Result :=
  if executes (P := P) s.cog cond x.isInd then
    if hubHazard s.cog x then .refused .quadTooSoon
    else body (hubAddr 4 s.inputs s.cog x) (s.setCog (hubAfter 4 x (enter (hubReg x) noReg s.cog)))
  else .next (skipSlot s)

end Sys2Proof.Machine
end

