-- ==== Sys2Proof/Machine/HubMem.lean ====
section
/-!
DEFINITION. HUB memory instructions (40_hub_memory.md).
-/
namespace Sys2Proof.Machine

/-- A store to HUB memory at `ea`; ROM is not written, and what that means is `RomWritePolicy` (R87,
D6). -/
def hubStore (ea : HubAddress) (m : List Host.Cell) (s : State) (P : Params := .spec) : Result :=
  if inRom ea then
    match P.romWrite with
    | .refuse => .refused .romWrite
    | .stuck => .next (s.setCog { s.cog with run := .stuck })
  else .next { s with mem := m }

/-- A result `v` for D with the Z of "result is zero" (R174, R390, D19). -/
def deliver (z r : Bool) (a : RegAddr) (v : Word) (c : Cog) : Cog :=
  writeZ z (v == 0#32) (writeD r a v c)

/-- WRBYTE (R180). -/
def execWrbyte (o : HubWrOps) (s : State) (P : Params := .spec) : Result :=
  runHub (P := P) 0 true o.cond o.d o.addr s fun ea _ dv s1 =>
    hubStore (P := P) ea (memWrite1 s1.mem ea (dv.extractLsb' 0 8)) s1

/-- WRWORD (R183). -/
def execWrword (o : HubWrOps) (s : State) (P : Params := .spec) : Result :=
  runHub (P := P) 1 true o.cond o.d o.addr s fun ea _ dv s1 =>
    hubStore (P := P) ea (memWrite2 s1.mem ea (dv.extractLsb' 0 16)) s1

/-- WRLONG (R186). -/
def execWrlong (o : HubWrOps) (s : State) (P : Params := .spec) : Result :=
  runHub (P := P) 2 true o.cond o.d o.addr s fun ea _ dv s1 => hubStore (P := P) ea (memWrite4 s1.mem ea dv) s1

/-- RDBYTE (R181). -/
def execRdbyte (o : HubRdOps) (s : State) (P : Params := .spec) : Result :=
  runHub (P := P) 0 false o.cond o.d o.addr s fun ea da _ s1 =>
    onCog (deliver o.z true da ((memRead1 s1.mem ea).setWidth 32)) s1

/-- RDWORD (R184). -/
def execRdword (o : HubRdOps) (s : State) (P : Params := .spec) : Result :=
  runHub (P := P) 1 false o.cond o.d o.addr s fun ea da _ s1 =>
    onCog (deliver o.z true da ((memRead2 s1.mem ea).setWidth 32)) s1

/-- RDLONG (R187). -/
def execRdlong (o : HubRdOps) (s : State) (P : Params := .spec) : Result :=
  runHub (P := P) 2 false o.cond o.d o.addr s fun ea da _ s1 =>
    onCog (deliver o.z true da (memRead4 s1.mem ea)) s1

/-- The byte, word and long a cached read delivers from the QUADs (R182, R185, R188). -/
def cachedByte (c : Cog) (ea : HubAddress) : Word := (cacheByte c (ea.extractLsb' 0 4)).setWidth 32

def cachedWord (c : Cog) (ea : HubAddress) : Word :=
  let k := ea.extractLsb' 1 3 ++ 0#1
  (cacheByte c (k + 1#4) ++ cacheByte c k).setWidth 32

def cachedLong (c : Cog) (ea : HubAddress) : Word := c.quads.rd (ea.extractLsb' 2 2)

/-- RDBYTEC (R182). -/
def execRdbytec (o : HubRdOps) (s : State) (P : Params := .spec) : Result :=
  runHub (P := P) 0 false o.cond o.d o.addr s fun ea da _ s1 =>
    onCog (fun c => deliver o.z true da (cachedByte (cacheLoad s1.mem ea c) ea)
      (cacheLoad s1.mem ea c)) s1

/-- RDWORDC (R185). -/
def execRdwordc (o : HubRdOps) (s : State) (P : Params := .spec) : Result :=
  runHub (P := P) 1 false o.cond o.d o.addr s fun ea da _ s1 =>
    onCog (fun c => deliver o.z true da (cachedWord (cacheLoad s1.mem ea c) ea)
      (cacheLoad s1.mem ea c)) s1

/-- RDLONGC (R188). -/
def execRdlongc (o : HubRdOps) (s : State) (P : Params := .spec) : Result :=
  runHub (P := P) 2 false o.cond o.d o.addr s fun ea da _ s1 =>
    onCog (fun c => deliver o.z true da (cachedLong (cacheLoad s1.mem ea c) ea)
      (cacheLoad s1.mem ea c)) s1

/-- WRQUAD (R190). -/
def execWrquad (o : QuadOps) (s : State) (P : Params := .spec) : Result :=
  runQuad (P := P) o.cond o.addr s fun ea s1 => hubStore (P := P) ea (memWriteQuad s1.mem ea s1.cog.quads) s1

/-- RDQUAD (R191). -/
def execRdquad (o : QuadOps) (s : State) (P : Params := .spec) : Result :=
  runQuad (P := P) o.cond o.addr s fun ea s1 => onCog (cacheFill s1.mem ea) s1

/-- RDQUADC (R192). -/
def execRdquadc (o : QuadOps) (s : State) (P : Params := .spec) : Result :=
  runQuad (P := P) o.cond o.addr s fun ea s1 => onCog (cacheLoad s1.mem ea) s1

end Sys2Proof.Machine
end

