-- ==== Sys2Proof/Machine/Branch.lean ====
section
/-!
DEFINITION. JMPRET, the test-and-jump instructions and the waits (48_branch_wait.md).
-/
namespace Sys2Proof.Machine

/-- JMPRET and JMPRETD: the return address goes into bits 8:0 of D, then the branch (R563, R564). With
neither result nor Z the instruction is a plain jump and D is not read. -/
def jmpRetWith (delayed z r : Bool) (cond : Cond) (d : Reg) (x : Src) (s : State) (P : Params := .spec) : Result :=
  runDS (P := P) (z || r) cond d x s fun da dv sv => onCog fun c =>
    let back := s.cog.pcNow + (if delayed then P.callDReturnOffset else 1#9)
    branchIf true delayed (sv.extractLsb' 0 9) (deliver z r da (dv.extractLsb' 9 23 ++ back) c)

/-- JMPRET (R563). -/
def execJmpret (o : AluZOps) (s : State) (P : Params := .spec) : Result := jmpRetWith (P := P) false o.z o.r o.cond o.d o.s s

/-- JMPRETD (R564). -/
def execJmpretd (o : AluZOps) (s : State) (P : Params := .spec) : Result := jmpRetWith (P := P) true o.z o.r o.cond o.d o.s s

/-- IJxx and DJxx: D changes by `by_`, and the branch is taken if the new value is zero, or is not
(R568 to R579; that the new value is tested is notes/assumptions/69.md). -/
def countJump (by_ : Word) (onZero delayed : Bool) (o : DSROps) (s : State) (P : Params := .spec) : Result :=
  runDS (P := P) true o.cond o.d o.s s fun da dv sv => onCog fun c =>
    branchIf ((dv + by_ == 0#32) == onZero) delayed (sv.extractLsb' 0 9)
      (writeD o.r da (dv + by_) c)

/-- IJZ (R570). -/
def execIjz (o : DSROps) (s : State) (P : Params := .spec) : Result := countJump (P := P) 1#32 true false o s

/-- IJZD (R571). -/
def execIjzd (o : DSROps) (s : State) (P : Params := .spec) : Result := countJump (P := P) 1#32 true true o s

/-- IJNZ (R572). -/
def execIjnz (o : DSROps) (s : State) (P : Params := .spec) : Result := countJump (P := P) 1#32 false false o s

/-- IJNZD (R573). -/
def execIjnzd (o : DSROps) (s : State) (P : Params := .spec) : Result := countJump (P := P) 1#32 false true o s

/-- DJZ (R576). -/
def execDjz (o : DSROps) (s : State) (P : Params := .spec) : Result := countJump (P := P) (-1#32) true false o s

/-- DJZD (R577). -/
def execDjzd (o : DSROps) (s : State) (P : Params := .spec) : Result := countJump (P := P) (-1#32) true true o s

/-- DJNZ (R578). -/
def execDjnz (o : DSROps) (s : State) (P : Params := .spec) : Result := countJump (P := P) (-1#32) false false o s

/-- DJNZD (R579). -/
def execDjnzd (o : DSROps) (s : State) (P : Params := .spec) : Result := countJump (P := P) (-1#32) false true o s

/-- TJxx: the branch is taken if D is zero, or is not (R582 to R585). -/
def testJump (onZero delayed : Bool) (o : DSOps) (s : State) (P : Params := .spec) : Result :=
  runDS (P := P) true o.cond o.d o.s s fun _ dv sv => onCog
    (branchIf ((dv == 0#32) == onZero) delayed (sv.extractLsb' 0 9))

/-- TJZ (R582). -/
def execTjz (o : DSOps) (s : State) (P : Params := .spec) : Result := testJump (P := P) true false o s

/-- TJZD (R583). -/
def execTjzd (o : DSOps) (s : State) (P : Params := .spec) : Result := testJump (P := P) true true o s

/-- TJNZ (R584). -/
def execTjnz (o : DSOps) (s : State) (P : Params := .spec) : Result := testJump (P := P) false false o s

/-- TJNZD (R585). -/
def execTjnzd (o : DSOps) (s : State) (P : Params := .spec) : Result := testJump (P := P) false true o s

/-- Clocks until the half of `cnt` that a WAITCNT tests equals its target; 0 if it does now (R596). -/
def clocksUntil (high : Bool) (cnt : BitVec 64) (target : Word) : Nat :=
  if high then
    (if cnt.extractLsb' 32 32 = target then 0 else (target ++ 0#32 - cnt).toNat)
  else (target - cnt.extractLsb' 0 32).toNat

/-- WAITCNT (R596). No clock at which its half of CNT equals D passes it by: see `clocksThatPass` in
Sys2Proof/Machine/Cycle.lean. -/
def execWaitcnt (o : WaitCOps) (s : State) (P : Params := .spec) : Result :=
  runDS (P := P) true o.cond o.d o.s s fun da dv sv s1 =>
    let h := heldOr s dv sv (some o.high)
    if clocksUntil o.high s.cnt h.d = 0 then onCog (writeD o.r da (h.d + h.s)) s1
    else .next (stallWith h s)

/-- What the pin waits test: the port that `WaitPort` names, under the mask S (R597;
notes/assumptions/56.md, 70.md). -/
def pinsUnder (s : State) (sv : Word) (P : Params := .spec) : Word :=
  portWindow s.inputs.pinIn (s.cog.por.rd P.waitPort) &&& sv

/-- WAITPEQ and WAITPNE: wait until the pins under the mask equal D, or do not (R597, R598). -/
def waitPins (equal : Bool) (o : DSOps) (s : State) (P : Params := .spec) : Result :=
  runDS (P := P) true o.cond o.d o.s s fun _ dv sv s1 =>
    let h := heldOr s dv sv
    if (pinsUnder (P := P) s h.s == h.d) = equal then .next s1 else .next (stallWith h s)

/-- WAITPEQ (R597). -/
def execWaitpeq (o : DSOps) (s : State) (P : Params := .spec) : Result := waitPins (P := P) true o s

/-- WAITPNE (R598). -/
def execWaitpne (o : DSOps) (s : State) (P : Params := .spec) : Result := waitPins (P := P) false o s

end Sys2Proof.Machine
end

