-- ==== Sys2Proof/Machine/Flags.lean ====
section
/-!
DEFINITION. Results and flags of the instructions that compute a value from their operands, as
functions (46_misc_mac.md sections 4 to 6, 47_core_alu.md). `d`, `s` are Dv and Sv; `z`, `c` the
flags before the instruction.
-/
namespace Sys2Proof.Machine

/-- A result and the values for Z and C (R470). -/
structure AluOut where
  v : Word
  z : Bool
  c : Bool
  deriving DecidableEq, Repr, Inhabited

/-- `zf = (v = 0)` (R470). -/
def withZero (v : Word) (c : Bool) : AluOut := ⟨v, v == 0#32, c⟩

/-- Parity: 1 when the number of 1 bits is odd (R9). -/
def parity (x : Word) : Bool := popcount x % 2 == 1

/-- The shift count S[4:0] (R473 to R480). -/
def shiftCount (s : Word) : Nat := (s.extractLsb' 0 5).toNat

/-- An exact integer lies outside the signed 32-bit range (R500). -/
def signedOverflow (x : Int) : Bool := decide (x < -(2 ^ 31)) || decide (x ≥ 2 ^ 31)

/-- An exact sum does not fit in 32 bits unsigned (R496). -/
def carryOut (n : Nat) : Bool := decide (n ≥ 2 ^ 32)

/-- Absolute value as a long; that of $80000000 is $80000000 (R498, R506). -/
def absWord (s : Word) : Word := if s.msb then -s else s

/-! ### Shifts and rotates (R473 to R480) -/

def rorOut (d s : Word) : AluOut :=
  let n := shiftCount s
  withZero (d >>> n ||| (if n = 0 then 0#32 else d <<< (32 - n))) (d.getLsbD 0)

def rolOut (d s : Word) : AluOut :=
  let n := shiftCount s
  withZero (d <<< n ||| (if n = 0 then 0#32 else d >>> (32 - n))) d.msb

def shrOut (d s : Word) : AluOut := withZero (d >>> shiftCount s) (d.getLsbD 0)

def shlOut (d s : Word) : AluOut := withZero (d <<< shiftCount s) d.msb

def rcrOut (d s : Word) (c : Bool) : AluOut :=
  let n := shiftCount s
  withZero (d >>> n ||| (if c && n != 0 then BitVec.allOnes 32 <<< (32 - n) else 0#32))
    (d.getLsbD 0)

def rclOut (d s : Word) (c : Bool) : AluOut :=
  let n := shiftCount s
  withZero (d <<< n ||| (if c then BitVec.ofNat 32 (2 ^ n - 1) else 0#32)) d.msb

def sarOut (d s : Word) : AluOut := withZero (d.sshiftRight (shiftCount s)) (d.getLsbD 0)

/-- REV (R480): `v[i] = Dv[k-1-i]` for `i < k`, k = 32 - S[4:0]. -/
def revOut (d s : Word) : AluOut :=
  let k := 32 - shiftCount s
  withZero (BitVec.ofFnLE fun i : Fin 32 => decide (i.val < k) && d.getLsbD (k - 1 - i.val))
    (d.getLsbD 0)

/-! ### Limits (R481 to R484) -/

def minsOut (d s : Word) (P : Params := .spec) : AluOut :=
  let lt := d.slt s
  let v := if lt then s else d
  ⟨v, P.minMaxZ s v, lt⟩

def maxsOut (d s : Word) (P : Params := .spec) : AluOut :=
  let lt := d.slt s
  let v := if lt then d else s
  ⟨v, P.minMaxZ s v, lt⟩

def minOut (d s : Word) (P : Params := .spec) : AluOut :=
  let lt := d.ult s
  let v := if lt then s else d
  ⟨v, P.minMaxZ s v, lt⟩

def maxOut (d s : Word) (P : Params := .spec) : AluOut :=
  let lt := d.ult s
  let v := if lt then d else s
  ⟨v, P.minMaxZ s v, lt⟩

/-! ### Field moves (R485 to R487) -/

def movsVal (d s : Word) : Word := d.extractLsb' 9 23 ++ s.extractLsb' 0 9
def movdVal (d s : Word) : Word := d.extractLsb' 18 14 ++ s.extractLsb' 0 9 ++ d.extractLsb' 0 9
def moviVal (d s : Word) : Word := s.extractLsb' 0 9 ++ d.extractLsb' 0 23

/-! ### Logic (R488 to R495): C is the parity of the result -/

def logicOut (v : Word) : AluOut := withZero v (parity v)

def muxVal (d s : Word) (b : Bool) : Word := (d &&& ~~~s) ||| (if b then s else 0#32)

/-! ### Add and subtract (R496 to R503, R512 to R521) -/

def addOut (d s : Word) : AluOut := withZero (d + s) (carryOut (d.toNat + s.toNat))
def subOut (d s : Word) : AluOut := withZero (d - s) (d.ult s)

/-- SUMxx (R500 to R503): subtract when `neg`. -/
def sumOut (d s : Word) (neg : Bool) : AluOut :=
  if neg then withZero (d - s) (signedOverflow (d.toInt - s.toInt))
  else withZero (d + s) (signedOverflow (d.toInt + s.toInt))

def addsOut (d s : Word) : AluOut := withZero (d + s) (signedOverflow (d.toInt + s.toInt))
def subsOut (d s : Word) : AluOut := withZero (d - s) (signedOverflow (d.toInt - s.toInt))

/-- C as a number. -/
def bitWord (b : Bool) : Word := if b then 1#32 else 0#32

/-- Z of the extended forms: Z before AND result zero (R513 to R519). -/
def withZeroAnd (v : Word) (z c : Bool) : AluOut := ⟨v, z && v == 0#32, c⟩

def addxOut (d s : Word) (z c : Bool) : AluOut :=
  withZeroAnd (d + s + bitWord c) z (carryOut (d.toNat + s.toNat + c.toNat))
def subxOut (d s : Word) (z c : Bool) : AluOut :=
  withZeroAnd (d - s - bitWord c) z (decide (d.toNat < s.toNat + c.toNat))
def addsxOut (d s : Word) (z c : Bool) : AluOut :=
  withZeroAnd (d + s + bitWord c) z (signedOverflow (d.toInt + s.toInt + c.toNat))
def subsxOut (d s : Word) (z c : Bool) : AluOut :=
  withZeroAnd (d - s - bitWord c) z (signedOverflow (d.toInt - s.toInt - c.toNat))

def cmpsOut (d s : Word) : AluOut := ⟨d - s, d == s, d.slt s⟩
def cmpsxOut (d s : Word) (z c : Bool) : AluOut :=
  withZeroAnd (d - s - bitWord c) z (decide (d.toInt < s.toInt + c.toNat))

def cmpsubOut (d s : Word) : AluOut :=
  let ge := decide (d.toNat ≥ s.toNat)
  ⟨if ge then d - s else d, d == s, ge⟩

def incmodVal (d s : Word) : Word := if d.toNat ≥ s.toNat then 0#32 else d + 1#32
def decmodVal (d s : Word) : Word := if d = 0#32 then s else d - 1#32

/-! ### Move and negate (R504 to R511): C is bit 31 of S -/

def moveOut (s v : Word) : AluOut := withZero v s.msb

/-- NEGxx: the value or its additive inverse. -/
def negIf (s : Word) (b : Bool) : Word := if b then -s else s

/-! ### Single-operand functions (R420 to R433) -/

def decod5 (d : Word) : Word := 0x00000001#32 <<< (d.extractLsb' 0 5).toNat
def decod4 (d : Word) : Word := 0x00010001#32 <<< (d.extractLsb' 0 4).toNat
def decod3 (d : Word) : Word := 0x01010101#32 <<< (d.extractLsb' 0 3).toNat
def decod2 (d : Word) : Word := 0x11111111#32 <<< (d.extractLsb' 0 2).toNat

/-- BINGRY (R430): the reflected Gray code (G6, notes/assumptions/66.md). -/
def bingry (d : Word) : Word := d ^^^ (d >>> 1)

/-- GRYBIN (R431, G6): bit i is the XOR of the bits i and above. -/
def grybin (d : Word) : Word := BitVec.ofFnLE fun i : Fin 32 => parity (d >>> i.val)

/-- MERGEW (R432). -/
def mergew (d : Word) : Word :=
  BitVec.ofFnLE fun i : Fin 32 =>
    if i.val % 2 = 0 then d.getLsbD (i.val / 2) else d.getLsbD (16 + i.val / 2)

/-- SPLITW (R433). -/
def splitw (d : Word) : Word :=
  BitVec.ofFnLE fun i : Fin 32 =>
    if i.val < 16 then d.getLsbD (2 * i.val) else d.getLsbD (2 * (i.val - 16) + 1)

/-- PUSHZC (R440). -/
def pushzcVal (d : Word) (z c : Bool) : Word :=
  d.extractLsb' 0 30 ++ BitVec.ofBool z ++ BitVec.ofBool c

/-- POPZC (R441). -/
def popzcVal (d : Word) (z c : Bool) : Word :=
  BitVec.ofBool z ++ BitVec.ofBool c ++ d.extractLsb' 2 30

/-- `1 << b` of the bit instructions (R451). -/
def bitMask (b : BitVec 5) : Word := 1#32 <<< b.toNat

/-- Bit b of D set to `x` (R447 to R450). -/
def putBit (d : Word) (b : BitVec 5) (x : Bool) : Word :=
  (d &&& ~~~(bitMask b)) ||| (bitWord x <<< b.toNat)

/-- FITACCx (R405): the value right by `n`, and `n` in the high long. -/
def fitTo (n : Nat) (v : BitVec 64) : BitVec 64 := BitVec.ofNat 32 n ++ (v >>> n).extractLsb' 0 32

end Sys2Proof.Machine
end

