-- ==== Sys2Proof/Machine/Alu.lean ====
section
/-!
DEFINITION. The core two-operand instructions (47_core_alu.md). Each is its function of D, S, Z and C in the common scheme of R470.
-/
namespace Sys2Proof.Machine

/-- `WriteD(v); WriteZ(zf); WriteC(cf)` (R470). -/
def putOut (z w r : Bool) (a : RegAddr) (x : AluOut) (c : Cog) : Cog :=
  writeC w x.c (writeZ z x.z (writeD r a x.v c))

/-- The common scheme: `f` of Dv, Sv, Z, C (R470). `reads` says whether the instruction reads D. -/
def alu (reads : Bool) (f : Word → Word → Bool → Bool → AluOut) (o : AluOps) (s : State) (P : Params := .spec) : Result :=
  runDS (P := P) reads o.cond o.d o.s s fun da dv sv => onCog fun c =>
    putOut o.z o.c o.r da (f dv sv c.flagZ c.flagC) c

/-- The scheme of the instructions that define no C (R470, D18). -/
def aluZ (reads : Bool) (f : Word → Word → Word) (o : AluZOps) (s : State) (P : Params := .spec) : Result :=
  runDS (P := P) reads o.cond o.d o.s s fun da dv sv => onCog (deliver o.z o.r da (f dv sv))

/-- ENC (R472). -/
def execEnc (o : AluZOps) (s : State) (P : Params := .spec) : Result := aluZ (P := P) false (fun _ s => P.encFn s) o s

/-- ROR (R473). -/
def execRor (o : AluOps) (s : State) (P : Params := .spec) : Result :=
  alu (P := P) true (fun d s _ _ => rorOut d s) o s

/-- ROL (R474). -/
def execRol (o : AluOps) (s : State) (P : Params := .spec) : Result :=
  alu (P := P) true (fun d s _ _ => rolOut d s) o s

/-- SHR (R475). -/
def execShr (o : AluOps) (s : State) (P : Params := .spec) : Result :=
  alu (P := P) true (fun d s _ _ => shrOut d s) o s

/-- SHL (R476). -/
def execShl (o : AluOps) (s : State) (P : Params := .spec) : Result :=
  alu (P := P) true (fun d s _ _ => shlOut d s) o s

/-- RCR (R477). -/
def execRcr (o : AluOps) (s : State) (P : Params := .spec) : Result :=
  alu (P := P) true (fun d s _ c => rcrOut d s c) o s

/-- RCL (R478). -/
def execRcl (o : AluOps) (s : State) (P : Params := .spec) : Result :=
  alu (P := P) true (fun d s _ c => rclOut d s c) o s

/-- SAR (R479). -/
def execSar (o : AluOps) (s : State) (P : Params := .spec) : Result :=
  alu (P := P) true (fun d s _ _ => sarOut d s) o s

/-- REV (R480). -/
def execRev (o : AluOps) (s : State) (P : Params := .spec) : Result :=
  alu (P := P) true (fun d s _ _ => revOut d s) o s

/-- MINS (R481). -/
def execMins (o : AluOps) (s : State) (P : Params := .spec) : Result :=
  alu (P := P) true (fun d s _ _ => minsOut (P := P) d s) o s

/-- MAXS (R482). -/
def execMaxs (o : AluOps) (s : State) (P : Params := .spec) : Result :=
  alu (P := P) true (fun d s _ _ => maxsOut (P := P) d s) o s

/-- MIN (R483). -/
def execMin (o : AluOps) (s : State) (P : Params := .spec) : Result :=
  alu (P := P) true (fun d s _ _ => minOut (P := P) d s) o s

/-- MAX (R484). -/
def execMax (o : AluOps) (s : State) (P : Params := .spec) : Result :=
  alu (P := P) true (fun d s _ _ => maxOut (P := P) d s) o s

/-- MOVS (R485). -/
def execMovs (o : AluZOps) (s : State) (P : Params := .spec) : Result := aluZ (P := P) true (movsVal) o s

/-- MOVD (R486). -/
def execMovd (o : AluZOps) (s : State) (P : Params := .spec) : Result := aluZ (P := P) true (movdVal) o s

/-- MOVI (R487). -/
def execMovi (o : AluZOps) (s : State) (P : Params := .spec) : Result := aluZ (P := P) true (moviVal) o s

/-- AND (R488). -/
def execAnd (o : AluOps) (s : State) (P : Params := .spec) : Result :=
  alu (P := P) true (fun d s _ _ => logicOut (d &&& s)) o s

/-- ANDN (R489). -/
def execAndn (o : AluOps) (s : State) (P : Params := .spec) : Result :=
  alu (P := P) true (fun d s _ _ => logicOut (d &&& ~~~s)) o s

/-- OR (R490). -/
def execOr (o : AluOps) (s : State) (P : Params := .spec) : Result :=
  alu (P := P) true (fun d s _ _ => logicOut (d ||| s)) o s

/-- XOR (R491). -/
def execXor (o : AluOps) (s : State) (P : Params := .spec) : Result :=
  alu (P := P) true (fun d s _ _ => logicOut (d ^^^ s)) o s

/-- MUXC (R492). -/
def execMuxc (o : AluOps) (s : State) (P : Params := .spec) : Result :=
  alu (P := P) true (fun d s _ c => logicOut (muxVal d s c)) o s

/-- MUXNC (R493). -/
def execMuxnc (o : AluOps) (s : State) (P : Params := .spec) : Result :=
  alu (P := P) true (fun d s _ c => logicOut (muxVal d s !c)) o s

/-- MUXZ (R494). -/
def execMuxz (o : AluOps) (s : State) (P : Params := .spec) : Result :=
  alu (P := P) true (fun d s z _ => logicOut (muxVal d s z)) o s

/-- MUXNZ (R495). -/
def execMuxnz (o : AluOps) (s : State) (P : Params := .spec) : Result :=
  alu (P := P) true (fun d s z _ => logicOut (muxVal d s !z)) o s

/-- ADD (R496). -/
def execAdd (o : AluOps) (s : State) (P : Params := .spec) : Result :=
  alu (P := P) true (fun d s _ _ => addOut d s) o s

/-- SUB (R497). -/
def execSub (o : AluOps) (s : State) (P : Params := .spec) : Result :=
  alu (P := P) true (fun d s _ _ => subOut d s) o s

/-- ADDABS (R498). -/
def execAddabs (o : AluOps) (s : State) (P : Params := .spec) : Result :=
  alu (P := P) true (fun d s _ _ => addOut d (absWord s)) o s

/-- SUBABS (R499). -/
def execSubabs (o : AluOps) (s : State) (P : Params := .spec) : Result :=
  alu (P := P) true (fun d s _ _ => subOut d (absWord s)) o s

/-- SUMC (R500). -/
def execSumc (o : AluOps) (s : State) (P : Params := .spec) : Result :=
  alu (P := P) true (fun d s _ c => sumOut d s c) o s

/-- SUMNC (R501). -/
def execSumnc (o : AluOps) (s : State) (P : Params := .spec) : Result :=
  alu (P := P) true (fun d s _ c => sumOut d s !c) o s

/-- SUMZ (R502). -/
def execSumz (o : AluOps) (s : State) (P : Params := .spec) : Result :=
  alu (P := P) true (fun d s z _ => sumOut d s z) o s

/-- SUMNZ (R503). -/
def execSumnz (o : AluOps) (s : State) (P : Params := .spec) : Result :=
  alu (P := P) true (fun d s z _ => sumOut d s !z) o s

/-- MOV (R504). -/
def execMov (o : AluOps) (s : State) (P : Params := .spec) : Result :=
  alu (P := P) false (fun _ s _ _ => moveOut s s) o s

/-- NEG (R505). -/
def execNeg (o : AluOps) (s : State) (P : Params := .spec) : Result :=
  alu (P := P) false (fun _ s _ _ => moveOut s (-s)) o s

/-- ABS (R506). -/
def execAbs (o : AluOps) (s : State) (P : Params := .spec) : Result :=
  alu (P := P) false (fun _ s _ _ => moveOut s (absWord s)) o s

/-- ABSNEG (R507). -/
def execAbsneg (o : AluOps) (s : State) (P : Params := .spec) : Result :=
  alu (P := P) false (fun _ s _ _ => moveOut s (negIf s !s.msb)) o s

/-- NEGC (R508). -/
def execNegc (o : AluOps) (s : State) (P : Params := .spec) : Result :=
  alu (P := P) false (fun _ s _ c => moveOut s (negIf s c)) o s

/-- NEGNC (R509). -/
def execNegnc (o : AluOps) (s : State) (P : Params := .spec) : Result :=
  alu (P := P) false (fun _ s _ c => moveOut s (negIf s !c)) o s

/-- NEGZ (R510). -/
def execNegz (o : AluOps) (s : State) (P : Params := .spec) : Result :=
  alu (P := P) false (fun _ s z _ => moveOut s (negIf s z)) o s

/-- NEGNZ (R511). -/
def execNegnz (o : AluOps) (s : State) (P : Params := .spec) : Result :=
  alu (P := P) false (fun _ s z _ => moveOut s (negIf s !z)) o s

/-- CMPS (R512). -/
def execCmps (o : AluOps) (s : State) (P : Params := .spec) : Result :=
  alu (P := P) true (fun d s _ _ => cmpsOut d s) o s

/-- CMPSX (R513). -/
def execCmpsx (o : AluOps) (s : State) (P : Params := .spec) : Result :=
  alu (P := P) true (fun d s z c => cmpsxOut d s z c) o s

/-- ADDX (R514). -/
def execAddx (o : AluOps) (s : State) (P : Params := .spec) : Result :=
  alu (P := P) true (fun d s z c => addxOut d s z c) o s

/-- SUBX (R515). -/
def execSubx (o : AluOps) (s : State) (P : Params := .spec) : Result :=
  alu (P := P) true (fun d s z c => subxOut d s z c) o s

/-- ADDS (R516). -/
def execAdds (o : AluOps) (s : State) (P : Params := .spec) : Result :=
  alu (P := P) true (fun d s _ _ => addsOut d s) o s

/-- SUBS (R517). -/
def execSubs (o : AluOps) (s : State) (P : Params := .spec) : Result :=
  alu (P := P) true (fun d s _ _ => subsOut d s) o s

/-- ADDSX (R518). -/
def execAddsx (o : AluOps) (s : State) (P : Params := .spec) : Result :=
  alu (P := P) true (fun d s z c => addsxOut d s z c) o s

/-- SUBSX (R519). -/
def execSubsx (o : AluOps) (s : State) (P : Params := .spec) : Result :=
  alu (P := P) true (fun d s z c => subsxOut d s z c) o s

/-- SUBR (R520). -/
def execSubr (o : AluOps) (s : State) (P : Params := .spec) : Result :=
  alu (P := P) true (fun d s _ _ => subOut s d) o s

/-- CMPSUB (R521). -/
def execCmpsub (o : AluOps) (s : State) (P : Params := .spec) : Result :=
  alu (P := P) true (fun d s _ _ => cmpsubOut d s) o s

/-- INCMOD (R522). -/
def execIncmod (o : AluZOps) (s : State) (P : Params := .spec) : Result := aluZ (P := P) true (incmodVal) o s

/-- DECMOD (R523). -/
def execDecmod (o : AluZOps) (s : State) (P : Params := .spec) : Result := aluZ (P := P) true (decmodVal) o s

end Sys2Proof.Machine
end

