-- ==== Sys2Proof/Machine/Misc.lean ====
section
/-!
DEFINITION. Counter, LFSR, multiplier, accumulators, bit and flag instructions, NOPX and SETSKIP (46_misc_mac.md).
-/
namespace Sys2Proof.Machine

/-- An instruction that puts a value into D with the flags of R390; it does not read D. -/
def getValue (o : DZROps) (s : State) (v : State → Word) (P : Params := .spec) : Result :=
  runD (P := P) false o.cond o.d s fun da _ s1 => onCog (deliver o.z o.r da (v s1)) s1

/-- GETCNT (R391): the low long of CNT, which is latched, or the high long of the latch. -/
def execGetcnt (o : DZROps) (s : State) (P : Params := .spec) : Result :=
  runD (P := P) false o.cond o.d s fun da _ s1 =>
    if s.cog.cntPhase then onCog (deliver o.z o.r da (s1.cog.cntl.extractLsb' 32 32)) s1
    else onCog (fun c => deliver o.z o.r da (s1.cnt.extractLsb' 0 32)
      { c with cntl := s1.cnt, cntPhase := true }) s1

/-- SUBCNT (R392). -/
def execSubcnt (o : DZROps) (s : State) (P : Params := .spec) : Result :=
  getValue (P := P) o s fun s1 => (s1.cnt - s1.cog.cntl).extractLsb' 0 32

/-- GETLFSR (R393). -/
def execGetlfsr (o : DZROps) (s : State) (P : Params := .spec) : Result := getValue (P := P) o s fun s1 => s1.inputs.lfsr

/-- GETACCA (R408). -/
def execGetacca (o : DZROps) (s : State) (P : Params := .spec) : Result :=
  runD (P := P) false o.cond o.d s fun da _ => onCog fun c =>
    if s.cog.accaPhase then deliver o.z o.r da (c.acca.extractLsb' 32 32) c
    else deliver o.z o.r da (c.acca.extractLsb' 0 32) { c with accaPhase := true }

/-- GETACCB (R409). -/
def execGetaccb (o : DZROps) (s : State) (P : Params := .spec) : Result :=
  runD (P := P) false o.cond o.d s fun da _ => onCog fun c =>
    if s.cog.accbPhase then deliver o.z o.r da (c.accb.extractLsb' 32 32) c
    else deliver o.z o.r da (c.accb.extractLsb' 0 32) { c with accbPhase := true }

/-- MUL and SCL: the result is always written (R394, R395). -/
def mulWith (f : Word → Word → Word) (o : MulOps) (s : State) (P : Params := .spec) : Result :=
  runDS (P := P) true o.cond o.d o.s s fun da dv sv => onCog (deliver o.z true da (f dv sv))

/-- MUL (R394). -/
def execMul (o : MulOps) (s : State) (P : Params := .spec) : Result := mulWith (P := P) P.mulFn o s

/-- SCL (R395). -/
def execScl (o : MulOps) (s : State) (P : Params := .spec) : Result := mulWith (P := P) P.sclFn o s

/-- MACA (R396). -/
def execMaca (o : DSOps) (s : State) (P : Params := .spec) : Result :=
  runDS (P := P) true o.cond o.d o.s s fun _ dv sv => onCog fun c => { c with acca := c.acca + P.macFn dv sv }

/-- MACB (R397). -/
def execMacb (o : DSOps) (s : State) (P : Params := .spec) : Result :=
  runDS (P := P) true o.cond o.d o.s s fun _ dv sv => onCog fun c => { c with accb := c.accb + P.macFn dv sv }

/-- SETACCA (R398). -/
def execSetacca (o : DSOps) (s : State) (P : Params := .spec) : Result :=
  runDS (P := P) true o.cond o.d o.s s fun _ dv sv => onCog fun c => { c with acca := sv ++ dv }

/-- SETACCB (R399). -/
def execSetaccb (o : DSOps) (s : State) (P : Params := .spec) : Result :=
  runDS (P := P) true o.cond o.d o.s s fun _ dv sv => onCog fun c => { c with accb := sv ++ dv }

/-- CLRACCA (R402). -/
def execClracca (o : SelOps) (s : State) (P : Params := .spec) : Result :=
  runPlain (P := P) o.cond s <| onCog fun c => { c with acca := 0#64 }

/-- CLRACCB (R403). -/
def execClraccb (o : SelOps) (s : State) (P : Params := .spec) : Result :=
  runPlain (P := P) o.cond s <| onCog fun c => { c with accb := 0#64 }

/-- CLRACCS (R404). -/
def execClraccs (o : SelOps) (s : State) (P : Params := .spec) : Result :=
  runPlain (P := P) o.cond s <| onCog fun c => { c with acca := 0#64, accb := 0#64 }

/-- FITACCA (R405). -/
def execFitacca (o : SelOps) (s : State) (P : Params := .spec) : Result :=
  runPlain (P := P) o.cond s <| onCog fun c => { c with acca := fitTo (P.fitCount c.acca) c.acca }

/-- FITACCB (R406). -/
def execFitaccb (o : SelOps) (s : State) (P : Params := .spec) : Result :=
  runPlain (P := P) o.cond s <| onCog fun c => { c with accb := fitTo (P.fitCount c.accb) c.accb }

/-- FITACCS (R407). -/
def execFitaccs (o : SelOps) (s : State) (P : Params := .spec) : Result :=
  runPlain (P := P) o.cond s <| onCog fun c =>
    let n := max (P.fitCount c.acca) (P.fitCount c.accb)
    { c with acca := fitTo n c.acca, accb := fitTo n c.accb }

/-! ### Single-operand instructions (Table 10) -/

/-- D becomes a function of D (R390). -/
def changeD (f : Word → Word) (o : DZROps) (s : State) (P : Params := .spec) : Result :=
  runD (P := P) true o.cond o.d s fun da dv => onCog (deliver o.z o.r da (f dv))

/-- DECOD5 (R420). -/
def execDecod5 (o : DZROps) (s : State) (P : Params := .spec) : Result := changeD (P := P) decod5 o s

/-- DECOD4 (R421). -/
def execDecod4 (o : DZROps) (s : State) (P : Params := .spec) : Result := changeD (P := P) decod4 o s

/-- DECOD3 (R422). -/
def execDecod3 (o : DZROps) (s : State) (P : Params := .spec) : Result := changeD (P := P) decod3 o s

/-- DECOD2 (R423). -/
def execDecod2 (o : DZROps) (s : State) (P : Params := .spec) : Result := changeD (P := P) decod2 o s

/-- BLMASK (R424). -/
def execBlmask (o : DZROps) (s : State) (P : Params := .spec) : Result := changeD (P := P) (fun d => P.blmaskFn (d.extractLsb' 0 6)) o s

/-- NOT (R425). -/
def execNot (o : DZROps) (s : State) (P : Params := .spec) : Result := changeD (P := P) (fun d => d ^^^ 0xFFFFFFFF#32) o s

/-- ONECNT (R426). -/
def execOnecnt (o : DZROps) (s : State) (P : Params := .spec) : Result := changeD (P := P) (fun d => BitVec.ofNat 32 (popcount d)) o s

/-- ZERCNT (R427). -/
def execZercnt (o : DZROps) (s : State) (P : Params := .spec) : Result := changeD (P := P) (fun d => BitVec.ofNat 32 (32 - popcount d)) o s

/-- INCPAT (R428). -/
def execIncpat (o : DZROps) (s : State) (P : Params := .spec) : Result := changeD (P := P) P.incpatFn o s

/-- DECPAT (R429). -/
def execDecpat (o : DZROps) (s : State) (P : Params := .spec) : Result := changeD (P := P) P.decpatFn o s

/-- BINGRY (R430). -/
def execBingry (o : DZROps) (s : State) (P : Params := .spec) : Result := changeD (P := P) bingry o s

/-- GRYBIN (R431). -/
def execGrybin (o : DZROps) (s : State) (P : Params := .spec) : Result := changeD (P := P) grybin o s

/-- MERGEW (R432). -/
def execMergew (o : DZROps) (s : State) (P : Params := .spec) : Result := changeD (P := P) mergew o s

/-- SPLITW (R433). -/
def execSplitw (o : DZROps) (s : State) (P : Params := .spec) : Result := changeD (P := P) splitw o s

/-- SEUSSF (R434). -/
def execSeussf (o : DZROps) (s : State) (P : Params := .spec) : Result := changeD (P := P) P.seussF o s

/-- SEUSSR (R435). -/
def execSeussr (o : DZROps) (s : State) (P : Params := .spec) : Result := changeD (P := P) P.seussR o s

/-! ### Flags and bits -/

/-- PUSHZC (R440). -/
def execPushzc (o : DZCROps) (s : State) (P : Params := .spec) : Result :=
  runD (P := P) true o.cond o.d s fun da dv => onCog fun c =>
    writeC o.c (dv.getLsbD 30) (writeZ o.z (dv.getLsbD 31)
      (writeD o.r da (pushzcVal dv c.flagZ c.flagC) c))

/-- POPZC (R441). -/
def execPopzc (o : DZCROps) (s : State) (P : Params := .spec) : Result :=
  runD (P := P) true o.cond o.d s fun da dv => onCog fun c =>
    writeC o.c (dv.getLsbD 0) (writeZ o.z (dv.getLsbD 1)
      (writeD o.r da (popzcVal dv c.flagZ c.flagC) c))

/-- SETZC (R442). -/
def execSetzc (o : DnZCOps) (s : State) (P : Params := .spec) : Result :=
  runDn (P := P) 9 o.cond o.d s fun v => onCog fun c =>
    writeC o.c (v.getLsbD 0) (writeZ o.z (v.getLsbD 1) c)

/-- A bit instruction: D becomes a function of D, the bit number and the flags Z, C (R451). -/
def bitOp (f : Word → BitVec 5 → Bool → Bool → Word) (o : DBitOps) (s : State) (P : Params := .spec) : Result :=
  runD (P := P) true o.cond o.d s fun da dv => onCog fun c =>
    deliver o.z o.r da (f dv o.b c.flagZ c.flagC) c

/-- ISOB (R443). -/
def execIsob (o : DBitOps) (s : State) (P : Params := .spec) : Result := bitOp (P := P) (fun d b _ _ => d &&& bitMask b) o s

/-- NOTB (R444). -/
def execNotb (o : DBitOps) (s : State) (P : Params := .spec) : Result := bitOp (P := P) (fun d b _ _ => d ^^^ bitMask b) o s

/-- CLRB (R445). -/
def execClrb (o : DBitOps) (s : State) (P : Params := .spec) : Result := bitOp (P := P) (fun d b _ _ => d &&& ~~~(bitMask b)) o s

/-- SETB (R446). -/
def execSetb (o : DBitOps) (s : State) (P : Params := .spec) : Result := bitOp (P := P) (fun d b _ _ => d ||| bitMask b) o s

/-- SETBC (R447). -/
def execSetbc (o : DBitOps) (s : State) (P : Params := .spec) : Result := bitOp (P := P) (fun d b _ c => putBit d b c) o s

/-- SETBNC (R448). -/
def execSetbnc (o : DBitOps) (s : State) (P : Params := .spec) : Result := bitOp (P := P) (fun d b _ c => putBit d b !c) o s

/-- SETBZ (R449). -/
def execSetbz (o : DBitOps) (s : State) (P : Params := .spec) : Result := bitOp (P := P) (fun d b z _ => putBit d b z) o s

/-- SETBNZ (R450). -/
def execSetbnz (o : DBitOps) (s : State) (P : Params := .spec) : Result := bitOp (P := P) (fun d b z _ => putBit d b !z) o s

/-! ### NOPX and SETSKIP -/

/-- NOPX (R452): the COG spends as many cycles more as the operand says doing nothing. -/
def execNopx (o : DnOps) (s : State) (P : Params := .spec) : Result :=
  runDn (P := P) 9 o.cond o.d s fun v => onCog fun c => { c with nops := v }

/-- SETSKIP (R453). -/
def execSetskip (o : DnOps) (s : State) (P : Params := .spec) : Result :=
  runDn (P := P) 6 o.cond o.d s fun v => onCog fun c => { c with skip := v, skipTask := c.cur }

end Sys2Proof.Machine
end

