-- ==== Sys2Proof/Machine/Devices.lean ====
section
/-!
DEFINITION. Devices of a COG: streaming, serial, remapping, video, DACs, texture, counters (49_peripherals.md).
-/
namespace Sys2Proof.Machine

/-- `DevWrite`: a device register of the COG takes the operand (R610). -/
def devWrite (w : Nat) (f : Word → Cog → Cog) (o : DnOps) (s : State) (P : Params := .spec) : Result :=
  runDn (P := P) w o.cond o.d s fun v => onCog (f v)

/-- SETXFR (R631): refused where it executes. -/
def execSetxfr (o : DnOps) (s : State) (P : Params := .spec) : Result :=
  runDn (P := P) 6 o.cond o.d s fun _ _ => .refused .dataStreamer

/-- SETMAP (R640): refused where it executes. -/
def execSetmap (o : DnOps) (s : State) (P : Params := .spec) : Result :=
  runDn (P := P) 6 o.cond o.d s fun _ _ => .refused .registerRemap

/-- SNDSER (R633): waits for the port, or with WC tries once. -/
def execSndser (o : DCOps) (s : State) (P : Params := .spec) : Result :=
  runD (P := P) true o.cond o.d s fun _ dv s1 =>
    let h := heldOr s dv 0#32
    if s.inputs.serTxReady then onCog (fun c => writeC o.c true { c with serTx := h.d }) s1
    else if o.c then onCog (writeC true false) s1
    else .next (stallWith h s)

/-- RCVSER (R634): waits for a long, or with WC tries once; a failed try leaves D and Z (D45). -/
def execRcvser (o : DZCOps) (s : State) (P : Params := .spec) : Result :=
  runD (P := P) false o.cond o.d s fun da _ s1 =>
    if s.inputs.serRxReady then
      onCog (fun c => writeC o.c true (deliver o.z true da s.inputs.serRxLong c)) s1
    else if o.c then onCog (writeC true false) s1
    else .next (stall s)

/-- SETSER (R632). -/
def execSetser (o : DnOps) (s : State) (P : Params := .spec) : Result :=
  devWrite (P := P) 6 (fun v c => { c with ser := v }) o s

/-- SETXCH (R641). -/
def execSetxch (o : DnOps) (s : State) (P : Params := .spec) : Result :=
  devWrite (P := P) 9 (fun v c => { c with xch := v }) o s

/-- SETVID (R655). -/
def execSetvid (o : DnOps) (s : State) (P : Params := .spec) : Result :=
  devWrite (P := P) 9 (fun v c => { c with video := { c.video with vid := v, inUse := true } }) o s

/-- SETVIDY (R656). -/
def execSetvidy (o : DnOps) (s : State) (P : Params := .spec) : Result :=
  devWrite (P := P) 9 (fun v c => { c with video := { c.video with vidy := v } }) o s

/-- SETVIDI (R657). -/
def execSetvidi (o : DnOps) (s : State) (P : Params := .spec) : Result :=
  devWrite (P := P) 9 (fun v c => { c with video := { c.video with vidi := v } }) o s

/-- SETVIDQ (R658). -/
def execSetvidq (o : DnOps) (s : State) (P : Params := .spec) : Result :=
  devWrite (P := P) 9 (fun v c => { c with video := { c.video with vidq := v } }) o s

/-- WAITVID (R659). -/
def execWaitvid (o : DSOps) (s : State) (P : Params := .spec) : Result :=
  runDS (P := P) true o.cond o.d o.s s fun _ dv sv s1 =>
    let h := heldOr s dv sv
    if s.inputs.vidReady then
      onCog (fun c =>
        { c with video := { c.video with handD := h.d, handS := h.s, inUse := true } }) s1
    else .next (stallWith h s)

/-- CFGDAC0 (R661). -/
def execCfgdac0 (o : DnOps) (s : State) (P : Params := .spec) : Result :=
  devWrite (P := P) 2 (fun v c => { c with cfgdac := c.cfgdac.wr 0#2 (v.extractLsb' 0 2) }) o s

/-- CFGDAC1 (R662). -/
def execCfgdac1 (o : DnOps) (s : State) (P : Params := .spec) : Result :=
  devWrite (P := P) 2 (fun v c => { c with cfgdac := c.cfgdac.wr 1#2 (v.extractLsb' 0 2) }) o s

/-- CFGDAC2 (R663). -/
def execCfgdac2 (o : DnOps) (s : State) (P : Params := .spec) : Result :=
  devWrite (P := P) 2 (fun v c => { c with cfgdac := c.cfgdac.wr 2#2 (v.extractLsb' 0 2) }) o s

/-- CFGDAC3 (R664). -/
def execCfgdac3 (o : DnOps) (s : State) (P : Params := .spec) : Result :=
  devWrite (P := P) 2 (fun v c => { c with cfgdac := c.cfgdac.wr 3#2 (v.extractLsb' 0 2) }) o s

/-- SETDAC0 (R665). -/
def execSetdac0 (o : DnOps) (s : State) (P : Params := .spec) : Result :=
  devWrite (P := P) 9 (fun v c => { c with dacval := c.dacval.wr 0#2 (v.extractLsb' 14 18) }) o s

/-- SETDAC1 (R666). -/
def execSetdac1 (o : DnOps) (s : State) (P : Params := .spec) : Result :=
  devWrite (P := P) 9 (fun v c => { c with dacval := c.dacval.wr 1#2 (v.extractLsb' 14 18) }) o s

/-- SETDAC2 (R667). -/
def execSetdac2 (o : DnOps) (s : State) (P : Params := .spec) : Result :=
  devWrite (P := P) 9 (fun v c => { c with dacval := c.dacval.wr 2#2 (v.extractLsb' 14 18) }) o s

/-- SETDAC3 (R668). -/
def execSetdac3 (o : DnOps) (s : State) (P : Params := .spec) : Result :=
  devWrite (P := P) 9 (fun v c => { c with dacval := c.dacval.wr 3#2 (v.extractLsb' 14 18) }) o s

/-- CFGDACS (R669): DAC k takes bits 2k+1:2k (D47, notes/assumptions/65.md). -/
def execCfgdacs (o : DnOps) (s : State) (P : Params := .spec) : Result :=
  devWrite (P := P) 8 (fun v c => { c with cfgdac :=
    #v[v.extractLsb' 0 2, v.extractLsb' 2 2, v.extractLsb' 4 2, v.extractLsb' 6 2] }) o s

/-- SETDACS (R679). -/
def execSetdacs (o : DnOps) (s : State) (P : Params := .spec) : Result :=
  devWrite (P := P) 9 (fun v c => { c with dacval := Vector.replicate _ (v.extractLsb' 14 18) }) o s

/-- GETPIX (R670). -/
def execGetpix (o : DZROps) (s : State) (P : Params := .spec) : Result := getValue (P := P) o s fun s1 => s1.inputs.pixAddress

/-- SETPIX (R671). -/
def execSetpix (o : DnOps) (s : State) (P : Params := .spec) : Result :=
  devWrite (P := P) 9 (fun v c => { c with pixel := { c.pixel with pix := v } }) o s

/-- SETPIXU (R672). -/
def execSetpixu (o : DnOps) (s : State) (P : Params := .spec) : Result :=
  devWrite (P := P) 9 (fun v c => { c with pixel := { c.pixel with pixu := v } }) o s

/-- SETPIXV (R673). -/
def execSetpixv (o : DnOps) (s : State) (P : Params := .spec) : Result :=
  devWrite (P := P) 9 (fun v c => { c with pixel := { c.pixel with pixv := v } }) o s

/-- SETPIXZ (R674). -/
def execSetpixz (o : DnOps) (s : State) (P : Params := .spec) : Result :=
  devWrite (P := P) 9 (fun v c => { c with pixel := { c.pixel with pixz := v } }) o s

/-- SETPIXR (R675). -/
def execSetpixr (o : DnOps) (s : State) (P : Params := .spec) : Result :=
  devWrite (P := P) 9 (fun v c => { c with pixel := { c.pixel with pixr := v } }) o s

/-- SETPIXG (R676). -/
def execSetpixg (o : DnOps) (s : State) (P : Params := .spec) : Result :=
  devWrite (P := P) 9 (fun v c => { c with pixel := { c.pixel with pixg := v } }) o s

/-- SETPIXB (R677). -/
def execSetpixb (o : DnOps) (s : State) (P : Params := .spec) : Result :=
  devWrite (P := P) 9 (fun v c => { c with pixel := { c.pixel with pixb := v } }) o s

/-- SETPIXA (R678). -/
def execSetpixa (o : DnOps) (s : State) (P : Params := .spec) : Result :=
  devWrite (P := P) 9 (fun v c => { c with pixel := { c.pixel with pixa := v } }) o s

/-! ### Counter A -/

/-- SETCTRA (R680). -/
def execSetctra (o : DnOps) (s : State) (P : Params := .spec) : Result :=
  devWrite (P := P) 9 (fun v c => { c with ctra := { c.ctra with mode := v, running := true } }) o s

/-- SETWAVA (R681). -/
def execSetwava (o : DnOps) (s : State) (P : Params := .spec) : Result :=
  devWrite (P := P) 9 (fun v c => { c with ctra := { c.ctra with wave := v } }) o s

/-- SETFRQA (R682). -/
def execSetfrqa (o : DnOps) (s : State) (P : Params := .spec) : Result :=
  devWrite (P := P) 9 (fun v c => { c with ctra := { c.ctra with frq := v } }) o s

/-- SETPHSA (R683). -/
def execSetphsa (o : DnOps) (s : State) (P : Params := .spec) : Result :=
  devWrite (P := P) 9 (fun v c => { c with ctra := { c.ctra with phs := v } }) o s

/-- ADDPHSA (R684). -/
def execAddphsa (o : DnOps) (s : State) (P : Params := .spec) : Result :=
  devWrite (P := P) 9 (fun v c => { c with ctra := { c.ctra with phs := c.ctra.phs + v } }) o s

/-- SUBPHSA (R685). -/
def execSubphsa (o : DnOps) (s : State) (P : Params := .spec) : Result :=
  devWrite (P := P) 9 (fun v c => { c with ctra := { c.ctra with phs := c.ctra.phs - v } }) o s

/-- SYNCTRA (R686): waits until PHSA wraps; a counter that does not run never does. -/
def execSynctra (o : IgnOps) (s : State) (P : Params := .spec) : Result :=
  runPlain (P := P) o.cond s fun s1 =>
    if s.cog.ctra.running && s.inputs.wrapa then .next s1 else .next (stall s)

/-- CAPCTRA (R687, U21): PHSA is free afterwards. -/
def execCapctra (o : IgnOps) (s : State) (P : Params := .spec) : Result :=
  runPlain (P := P) o.cond s fun s1 =>
    onCog (fun c => { c with ctra := { c.ctra with phs := Config.freeWord s1.tick } }) s1

/-- PHSA as it reads: the register, or a draw while the counter runs (R688). -/
def phsA (s : State) : Word := if s.cog.ctra.running then s.inputs.phsa else s.cog.ctra.phs

/-- GETPHSA (R690). -/
def execGetphsa (o : DZROps) (s : State) (P : Params := .spec) : Result := getValue (P := P) o s phsA

/-- GETPHZA (R691): PHSA is zeroed whatever R is. -/
def execGetphza (o : DZROps) (s : State) (P : Params := .spec) : Result :=
  runD (P := P) false o.cond o.d s fun da _ s1 => onCog (fun c =>
    deliver o.z o.r da (phsA s1) { c with ctra := { c.ctra with phs := 0#32 } }) s1

/-- GETCOSA (R692). -/
def execGetcosa (o : DZROps) (s : State) (P : Params := .spec) : Result := getValue (P := P) o s fun s1 => s1.inputs.cosa

/-- GETSINA (R693). -/
def execGetsina (o : DZROps) (s : State) (P : Params := .spec) : Result := getValue (P := P) o s fun s1 => s1.inputs.sina

/-! ### Counter B -/

/-- SETCTRB (R700). -/
def execSetctrb (o : DnOps) (s : State) (P : Params := .spec) : Result :=
  devWrite (P := P) 9 (fun v c => { c with ctrb := { c.ctrb with mode := v, running := true } }) o s

/-- SETWAVB (R701). -/
def execSetwavb (o : DnOps) (s : State) (P : Params := .spec) : Result :=
  devWrite (P := P) 9 (fun v c => { c with ctrb := { c.ctrb with wave := v } }) o s

/-- SETFRQB (R702). -/
def execSetfrqb (o : DnOps) (s : State) (P : Params := .spec) : Result :=
  devWrite (P := P) 9 (fun v c => { c with ctrb := { c.ctrb with frq := v } }) o s

/-- SETPHSB (R703). -/
def execSetphsb (o : DnOps) (s : State) (P : Params := .spec) : Result :=
  devWrite (P := P) 9 (fun v c => { c with ctrb := { c.ctrb with phs := v } }) o s

/-- ADDPHSB (R704). -/
def execAddphsb (o : DnOps) (s : State) (P : Params := .spec) : Result :=
  devWrite (P := P) 9 (fun v c => { c with ctrb := { c.ctrb with phs := c.ctrb.phs + v } }) o s

/-- SUBPHSB (R705). -/
def execSubphsb (o : DnOps) (s : State) (P : Params := .spec) : Result :=
  devWrite (P := P) 9 (fun v c => { c with ctrb := { c.ctrb with phs := c.ctrb.phs - v } }) o s

/-- SYNCTRB (R706): waits until PHSB wraps; a counter that does not run never does. -/
def execSynctrb (o : IgnOps) (s : State) (P : Params := .spec) : Result :=
  runPlain (P := P) o.cond s fun s1 =>
    if s.cog.ctrb.running && s.inputs.wrapb then .next s1 else .next (stall s)

/-- CAPCTRB (R707, U21): PHSB is free afterwards. -/
def execCapctrb (o : IgnOps) (s : State) (P : Params := .spec) : Result :=
  runPlain (P := P) o.cond s fun s1 =>
    onCog (fun c => { c with ctrb := { c.ctrb with phs := Config.freeWord s1.tick } }) s1

/-- PHSB as it reads: the register, or a draw while the counter runs (R688). -/
def phsB (s : State) : Word := if s.cog.ctrb.running then s.inputs.phsb else s.cog.ctrb.phs

/-- GETPHSB (R694). -/
def execGetphsb (o : DZROps) (s : State) (P : Params := .spec) : Result := getValue (P := P) o s phsB

/-- GETPHZB (R695): PHSB is zeroed whatever R is. -/
def execGetphzb (o : DZROps) (s : State) (P : Params := .spec) : Result :=
  runD (P := P) false o.cond o.d s fun da _ s1 => onCog (fun c =>
    deliver o.z o.r da (phsB s1) { c with ctrb := { c.ctrb with phs := 0#32 } }) s1

/-- GETCOSB (R696). -/
def execGetcosb (o : DZROps) (s : State) (P : Params := .spec) : Result := getValue (P := P) o s fun s1 => s1.inputs.cosb

/-- GETSINB (R697). -/
def execGetsinb (o : DZROps) (s : State) (P : Params := .spec) : Result := getValue (P := P) o s fun s1 => s1.inputs.sinb

end Sys2Proof.Machine
end

