-- ==== Sys2Proof/Machine/HubControl.lean ====
section
/-!
DEFINITION. COG, clock and lock control (42_hub_control.md).
-/
namespace Sys2Proof.Machine

/-- A COGINIT that starts COG `n` (R241): D receives the number, C = 0, and then the COG starts, which
may be the executing one. -/
def cogInitOk (o : CogIniOps) (da : RegAddr) (n : CogId) (a p : HubAddress) (s : State) : State :=
  startCog n a p
    (s.setCog (writeC o.c false (deliver o.z o.r da (n.setWidth 32) s.cog)))

/-- A COGINIT that found no idle COG (R241, U7): C = 1, D and Z are free. -/
def cogInitFail (o : CogIniOps) (da : RegAddr) (s : State) : State :=
  s.setCog (writeC o.c true (writeZ o.z (Config.freeFlag s.tick)
    (writeD o.r da (Config.freeWord s.tick) s.cog)))

/-- COGINIT (R241). -/
def execCoginit (o : CogIniOps) (s : State) (P : Params := .spec) : Result :=
  runDS (P := P) true o.cond o.d (.reg o.s) s fun da dv sv s1 =>
    let a := alignTo 2 (dv.extractLsb' 0 17)
    let p := sv.extractLsb' 0 17
    if s1.cog.cogsel.getLsbD 3 then
      match nextIdleCog (P := P) s1 with
      | some n => .next (cogInitOk o da n a p s1)
      | none => .next (cogInitFail o da s1)
    else .next (cogInitOk o da (s1.cog.cogsel.extractLsb' 0 3) a p s1)

/-- The value selects XTAL or PLL while XI is off, or PLL while the PLL is off (R245, U8). -/
def clockSourceOff (v : BitVec 9) : Bool :=
  (v.extractLsb' 0 2 == 2#2 && v.extractLsb' 2 2 == 0#2) ||
    (v.extractLsb' 0 2 == 3#2 && (v.extractLsb' 2 2 == 0#2 || v.extractLsb' 4 4 == 0#4))

/-- CLKSET (R245, R761). -/
def execClkset (o : D0Ops) (s : State) (P : Params := .spec) : Result :=
  runD (P := P) true o.cond o.d s fun _ dv s1 =>
    let v := dv.extractLsb' 0 9
    if v.getLsbD 8 then .next (chipReset s1)
    else if clockSourceOff v then .refused .clockSource
    else .next { s1 with clk := v }

/-- COGID (R246). -/
def execCogid (o : D0Ops) (s : State) (P : Params := .spec) : Result :=
  runD (P := P) false o.cond o.d s fun da _ s1 => onCog (fun c => writeReg c da (s1.turn.setWidth 32)) s1

/-- COGSTOP (R247). -/
def execCogstop (o : D0Ops) (s : State) (P : Params := .spec) : Result :=
  runD (P := P) true o.cond o.d s fun _ dv s1 =>
    let n := dv.extractLsb' 0 3
    .next { s1 with cogs := s1.cogs.wr n { s1.cogs.rd n with run := .idle } }

/-- A lock's taken bit, and its state bit, set to `b` (R50). -/
def setTaken (k : BitVec 3) (b : Bool) (s : State) : State :=
  { s with locks := s.locks.wr k { s.locks.rd k with taken := b } }

def setLock (k : BitVec 3) (b : Bool) (s : State) : State :=
  { s with locks := s.locks.wr k { s.locks.rd k with state := b } }

/-- LOCKNEW (R248); D and Z are free where no lock is (U7). -/
def execLocknew (o : DZCOps) (s : State) (P : Params := .spec) : Result :=
  runD (P := P) false o.cond o.d s fun da _ s1 =>
    match nextFreeLock (P := P) s1 with
    | some k =>
      onCog (fun c => writeC o.c false (deliver o.z true da (k.setWidth 32) c)) (setTaken k true s1)
    | none =>
      onCog (fun c => writeC o.c true (writeZ o.z (Config.freeFlag s1.tick)
        (writeReg c da (Config.freeWord s1.tick)))) s1

/-- LOCKRET (R249). -/
def execLockret (o : D0Ops) (s : State) (P : Params := .spec) : Result :=
  runD (P := P) true o.cond o.d s fun _ dv s1 => .next (setTaken (dv.extractLsb' 0 3) false s1)

/-- LOCKSET and LOCKCLR: the lock's state becomes `b`, C its prior state (R250, R251). -/
def lockTo (b : Bool) (o : DCOps) (s : State) (P : Params := .spec) : Result :=
  runD (P := P) true o.cond o.d s fun _ dv s1 =>
    let k := dv.extractLsb' 0 3
    onCog (writeC o.c (s1.locks.rd k).state) (setLock k b s1)

/-- LOCKSET (R250). -/
def execLockset (o : DCOps) (s : State) (P : Params := .spec) : Result := lockTo (P := P) true o s

/-- LOCKCLR (R251). -/
def execLockclr (o : DCOps) (s : State) (P : Params := .spec) : Result := lockTo (P := P) false o s

end Sys2Proof.Machine
end

