-- ==== Sys2Proof/Machine/Indirect.lean ====
section
/-!
DEFINITION. SETINDx and FIXINDx (43_indirect.md). They are not conditional and have only immediates (R135).
-/
namespace Sys2Proof.Machine

/-- A pointer with the limits that SETINDx forces (R280). -/
def wholeRange (p : RegAddr) : IndPtr := ⟨p, 0x000#9, 0x1FF#9⟩

/-- FIXINDx: pointer at the initial value, limits at the lower and the higher (R288). -/
def fixedRange (terminal initial : RegAddr) : IndPtr :=
  ⟨initial, if initial.toNat ≤ terminal.toNat then initial else terminal,
    if initial.toNat ≤ terminal.toNat then terminal else initial⟩

/-- SETINDA #addr (R280). -/
def execSetindaAddr (o : IndOneOps) (s : State) : Result :=
  onCog (fun c => { c with inda := wholeRange o.n }) (skipSlot s)

/-- SETINDA ++delta or --delta (R281). -/
def execSetindaDelta (o : IndOneOps) (s : State) : Result :=
  onCog (fun c => { c with inda := wholeRange (c.inda.ptr + o.n) }) (skipSlot s)

/-- SETINDB #addr (R282). -/
def execSetindbAddr (o : IndOneOps) (s : State) : Result :=
  onCog (fun c => { c with indb := wholeRange o.n }) (skipSlot s)

/-- SETINDB ++delta or --delta (R283). -/
def execSetindbDelta (o : IndOneOps) (s : State) : Result :=
  onCog (fun c => { c with indb := wholeRange (c.indb.ptr + o.n) }) (skipSlot s)

/-- SETINDS (R284). -/
def execSetindsAddrAddr (o : IndTwoOps) (s : State) : Result :=
  onCog (fun c => { c with indb := wholeRange o.b, inda := wholeRange o.a }) (skipSlot s)

/-- SETINDS (R285). -/
def execSetindsAddrDelta (o : IndTwoOps) (s : State) : Result :=
  onCog (fun c => { c with indb := wholeRange o.b, inda := wholeRange (c.inda.ptr + o.a) }) (skipSlot s)

/-- SETINDS (R286). -/
def execSetindsDeltaAddr (o : IndTwoOps) (s : State) : Result :=
  onCog (fun c => { c with indb := wholeRange (c.indb.ptr + o.b), inda := wholeRange o.a }) (skipSlot s)

/-- SETINDS (R287). -/
def execSetindsDeltaDelta (o : IndTwoOps) (s : State) : Result :=
  onCog (fun c => { c with indb := wholeRange (c.indb.ptr + o.b), inda := wholeRange (c.inda.ptr + o.a) }) (skipSlot s)

/-- FIXINDA (R288). -/
def execFixinda (o : FixOps) (s : State) : Result :=
  onCog (fun c => { c with inda := fixedRange o.terminal o.initial }) (skipSlot s)

/-- FIXINDB (R289). -/
def execFixindb (o : FixOps) (s : State) : Result :=
  onCog (fun c => { c with indb := fixedRange o.terminal o.initial }) (skipSlot s)

/-- FIXINDS (R290). -/
def execFixinds (o : FixOps) (s : State) : Result :=
  onCog (fun c => { c with inda := fixedRange o.terminal o.initial,
                           indb := fixedRange o.terminal o.initial }) (skipSlot s)

end Sys2Proof.Machine
end

