-- ==== Sys2Proof/Machine/Named.lean ====
section
/-!
DEFINITION. The rows without words of their own (30_encoding.md R156, 45_multitasking.md R369, R370): instructions that doc00 names without an encoding, aliases of other rows, and superseded words. No word decodes to them; they are here as the rules describe them.
-/
namespace Sys2Proof.Machine

/-- SETCOG (R242). -/
def execSetcog (o : DnOps) (s : State) (P : Params := .spec) : Result :=
  runDn (P := P) 9 o.cond o.d s fun v => onCog fun c => { c with cogsel := v.extractLsb' 0 4 }

/-- REPS and REPD: the repeat unit is set up for the block that starts `ahead` addresses on (R454,
R455). A count or a length of 0 is not described, so what it stands for is free. -/
def repeatWith (ahead : RegAddr) (o : RepeatOps) (s : State) (P : Params := .spec) : Result :=
  runDn (P := P) 9 o.cond o.d s fun v s1 => onCog (fun c =>
    { c with rep :=
      { count := if v = 0#32 then Config.freeRepCount s1.tick else v
        len := if o.len = 0#5 then Config.freeRepLength s1.tick else o.len
        start := s.cog.pcNow + ahead
        task := c.cur } }) s1

/-- REPS (R454). -/
def execReps (o : RepeatOps) (s : State) (P : Params := .spec) : Result := repeatWith (P := P) 2#9 o s

/-- REPD (R455). -/
def execRepd (o : RepeatOps) (s : State) (P : Params := .spec) : Result := repeatWith (P := P) 4#9 o s

/-- POLCTRA (R370). -/
def execPolctra (o : PollOps) (s : State) (P : Params := .spec) : Result :=
  runPlain (P := P) o.cond s fun s1 => onCog (writeC o.c (s1.cog.ctra.running && s1.inputs.wrapa)) s1

/-- POLCTRB (R370). -/
def execPolctrb (o : PollOps) (s : State) (P : Params := .spec) : Result :=
  runPlain (P := P) o.cond s fun s1 => onCog (writeC o.c (s1.cog.ctrb.running && s1.inputs.wrapb)) s1

/-- POLVID (R370). -/
def execPolvid (o : PollOps) (s : State) (P : Params := .spec) : Result :=
  runPlain (P := P) o.cond s fun s1 => onCog (writeC o.c s1.inputs.vidReady) s1

/-- PASSCNT (R370, R599): jumps to itself while the time it waits for has not passed; the test itself
is the environment's. -/
def execPasscnt (o : D0Ops) (s : State) (P : Params := .spec) : Result :=
  runD (P := P) true o.cond o.d s fun _ _ s1 =>
    onCog (branchIf (!s1.inputs.timePassed) false s.cog.pcNow) s1

/-- JP and JNP (R370, R599): jump to S or not by the pins; the test itself is the environment's. -/
def pinJump (on : Bool) (o : DSOps) (s : State) (P : Params := .spec) : Result :=
  runDS (P := P) true o.cond o.d o.s s fun _ _ sv s1 =>
    onCog (branchIf (s1.inputs.pinsSay == on) false (sv.extractLsb' 0 9)) s1

/-- JP (R370). -/
def execJp (o : DSOps) (s : State) (P : Params := .spec) : Result := pinJump (P := P) true o s

/-- JNP (R370). -/
def execJnp (o : DSOps) (s : State) (P : Params := .spec) : Result := pinJump (P := P) false o s

/-! ### Aliases (R156) -/

/-- NOP (R151, R565). -/
def execNop (s : State) : Result := .next (skipSlot s)

/-- JMP (R566): JMPRET without result. -/
def execJmp (o : JumpOps) (s : State) (P : Params := .spec) : Result := jmpRetWith (P := P) false false false o.cond noReg o.s s

/-- JMPD (R566). -/
def execJmpd (o : JumpOps) (s : State) (P : Params := .spec) : Result := jmpRetWith (P := P) true false false o.cond noReg o.s s

/-- CALL (R567): JMPRET label_ret,#label. -/
def execCall (o : CallOps) (s : State) (P : Params := .spec) : Result :=
  jmpRetWith (P := P) false false true o.cond o.d (.imm o.target) s

/-- CALLD (R567). -/
def execCalld (o : CallOps) (s : State) (P : Params := .spec) : Result :=
  jmpRetWith (P := P) true false true o.cond o.d (.imm o.target) s

/-- RET (R567): JMP #0, whose S field a CALL has changed by the time it is a return. -/
def execRet (o : PlainOps) (s : State) (P : Params := .spec) : Result :=
  jmpRetWith (P := P) false false false o.cond noReg (.imm 0#9) s

/-- RETD (R567). -/
def execRetd (o : PlainOps) (s : State) (P : Params := .spec) : Result :=
  jmpRetWith (P := P) true false false o.cond noReg (.imm 0#9) s

/-! ### Refused where they execute -/

/-- A read of the multiplier, divider, square root or CORDIC unit (R41, R369). -/
def mathUnitRead (o : DCOps) (s : State) (P : Params := .spec) : Result :=
  runD (P := P) false o.cond o.d s fun _ _ _ => .refused .mathUnit

/-- GETMULL (R369). -/
def execGetmull (o : DCOps) (s : State) (P : Params := .spec) : Result := mathUnitRead (P := P) o s

/-- GETMULH (R369). -/
def execGetmulh (o : DCOps) (s : State) (P : Params := .spec) : Result := mathUnitRead (P := P) o s

/-- GETDIVQ (R369). -/
def execGetdivq (o : DCOps) (s : State) (P : Params := .spec) : Result := mathUnitRead (P := P) o s

/-- GETDIVR (R369). -/
def execGetdivr (o : DCOps) (s : State) (P : Params := .spec) : Result := mathUnitRead (P := P) o s

/-- GETSQRT (R369). -/
def execGetsqrt (o : DCOps) (s : State) (P : Params := .spec) : Result := mathUnitRead (P := P) o s

/-- GETQX (R369). -/
def execGetqx (o : DCOps) (s : State) (P : Params := .spec) : Result := mathUnitRead (P := P) o s

/-- GETQY (R369). -/
def execGetqy (o : DCOps) (s : State) (P : Params := .spec) : Result := mathUnitRead (P := P) o s

/-- GETQZ (R369). -/
def execGetqz (o : DCOps) (s : State) (P : Params := .spec) : Result := mathUnitRead (P := P) o s

/-- The older SETINDA D,S (R590). -/
def execSetindaOld (o : DSOps) (s : State) (P : Params := .spec) : Result :=
  runDS (P := P) false o.cond o.d o.s s fun _ _ _ _ => .refused .supersededWord

/-- The older SETINDB D,S (R590). -/
def execSetindbOld (o : DSOps) (s : State) (P : Params := .spec) : Result :=
  runDS (P := P) false o.cond o.d o.s s fun _ _ _ _ => .refused .supersededWord

end Sys2Proof.Machine
end

