-- ==== Sys2Proof/Machine/Pins.lean ====
section
/-!
DEFINITION. Ports and pins (49_peripherals.md sections 2 and 4).
-/
namespace Sys2Proof.Machine

/-- The pin number of an operand (R619). -/
def pinOf (v : Word) : BitVec 7 := v.extractLsb' 0 7

/-- `PinIn(p)` (R615). -/
def pinLevel (s : State) (p : BitVec 7) : Bool := s.inputs.pinIn.getLsbD p.toNat

/-- Bit `p` of `x` set to `b`. -/
def putPin (x : BitVec 128) (p : BitVec 7) (b : Bool) : BitVec 128 :=
  if b then x ||| (1#128 <<< p.toNat) else x &&& ~~~(1#128 <<< p.toNat)

/-- GETP (R620). -/
def execGetp (o : DnZCOps) (s : State) (P : Params := .spec) : Result :=
  runDn (P := P) 7 o.cond o.d s fun v s1 =>
    onCog (fun c => writeC o.c (pinLevel s1 (pinOf v)) (writeZ o.z (!pinLevel s1 (pinOf v)) c)) s1

/-- GETPN (R621). -/
def execGetpn (o : DnZCOps) (s : State) (P : Params := .spec) : Result :=
  runDn (P := P) 7 o.cond o.d s fun v s1 =>
    onCog (fun c => writeC o.c (!pinLevel s1 (pinOf v)) (writeZ o.z (pinLevel s1 (pinOf v)) c)) s1

/-- OFFP (R622). -/
def execOffp (o : DnOps) (s : State) (P : Params := .spec) : Result :=
  runDn (P := P) 7 o.cond o.d s fun v => onCog fun c =>
    { c with dir := putPin c.dir (pinOf v) (!c.dir.getLsbD (pinOf v).toNat) }

/-- An instruction that sets the output latch of a pin to `f` of the COG and the pin (R619). -/
def setOut (f : Cog → BitVec 7 → Bool) (o : DnOps) (s : State) (P : Params := .spec) : Result :=
  runDn (P := P) 7 o.cond o.d s fun v => onCog fun c =>
    { c with out := putPin c.out (pinOf v) (f c (pinOf v)) }

/-- NOTP (R623). -/
def execNotp (o : DnOps) (s : State) (P : Params := .spec) : Result := setOut (P := P) (fun c p => !c.out.getLsbD p.toNat) o s

/-- CLRP (R624). -/
def execClrp (o : DnOps) (s : State) (P : Params := .spec) : Result := setOut (P := P) (fun _ _ => false) o s

/-- SETP (R625). -/
def execSetp (o : DnOps) (s : State) (P : Params := .spec) : Result := setOut (P := P) (fun _ _ => true) o s

/-- SETPC (R626). -/
def execSetpc (o : DnOps) (s : State) (P : Params := .spec) : Result := setOut (P := P) (fun c _ => c.flagC) o s

/-- SETPNC (R627). -/
def execSetpnc (o : DnOps) (s : State) (P : Params := .spec) : Result := setOut (P := P) (fun c _ => !c.flagC) o s

/-- SETPZ (R628). -/
def execSetpz (o : DnOps) (s : State) (P : Params := .spec) : Result := setOut (P := P) (fun c _ => c.flagZ) o s

/-- SETPNZ (R629). -/
def execSetpnz (o : DnOps) (s : State) (P : Params := .spec) : Result := setOut (P := P) (fun c _ => !c.flagZ) o s

/-- SETPORx (R611 to R614). -/
def setPor (x : BitVec 2) (o : DnOps) (s : State) (P : Params := .spec) : Result :=
  runDn (P := P) 2 o.cond o.d s fun v => onCog fun c => { c with por := c.por.wr x (v.extractLsb' 0 2) }

/-- SETPORA (R611). -/
def execSetpora (o : DnOps) (s : State) (P : Params := .spec) : Result := setPor (P := P) 0#2 o s

/-- SETPORB (R612). -/
def execSetporb (o : DnOps) (s : State) (P : Params := .spec) : Result := setPor (P := P) 1#2 o s

/-- SETPORC (R613). -/
def execSetporc (o : DnOps) (s : State) (P : Params := .spec) : Result := setPor (P := P) 2#2 o s

/-- SETPORD (R614). -/
def execSetpord (o : DnOps) (s : State) (P : Params := .spec) : Result := setPor (P := P) 3#2 o s

/-- SETPORT (R650). -/
def execSetport (o : DnOps) (s : State) (P : Params := .spec) : Result :=
  runDn (P := P) 2 o.cond o.d s fun v => onCog fun c => { c with portsel := v.extractLsb' 0 2 }

/-- The pin configurations with those of port `port` that `mask` selects set to `v` (R651). -/
def configurePins (port : BitVec 2) (mask : Word) (v : BitVec 13) (p : Bank 7 (BitVec 13)) :
    Bank 7 (BitVec 13) :=
  Vector.ofFn fun i =>
    if (i.val / 32 == port.toNat) && mask.getLsbD (i.val % 32) then v else p[i]

/-- CFGPINS (R651). -/
def execCfgpins (o : DSOps) (s : State) (P : Params := .spec) : Result :=
  runDS (P := P) true o.cond o.d o.s s fun _ dv sv s1 =>
    .next { s1 with pinCfg := configurePins s1.cog.portsel dv (sv.extractLsb' 0 13) s1.pinCfg }

end Sys2Proof.Machine
end

