-- ==== Sys2Proof/Machine/PtrQuad.lean ====
section
/-!
DEFINITION. PTRA/PTRB and QUAD-related instructions (41_ptr_quad.md).
-/
namespace Sys2Proof.Machine

/-- GETPTRx (R211, R212). -/
def getPtr (o : DZCROps) (p : Cog → HubAddress) (s : State) (P : Params := .spec) : Result :=
  runD (P := P) false o.cond o.d s fun da _ s1 =>
    onCog (fun c => writeC o.c ((p c).getLsbD 16) (deliver o.z o.r da ((p c).setWidth 32) c)) s1

/-- GETPTRA (R211). -/
def execGetptra (o : DZCROps) (s : State) (P : Params := .spec) : Result := getPtr (P := P) o (·.ptra) s

/-- GETPTRB (R212). -/
def execGetptrb (o : DZCROps) (s : State) (P : Params := .spec) : Result := getPtr (P := P) o (·.ptrb) s

/-- The low 17 bits of a long (R210, D5). -/
def low17 (v : Word) : HubAddress := v.extractLsb' 0 17

/-- SETPTRA (R213). -/
def execSetptra (o : DnOps) (s : State) (P : Params := .spec) : Result :=
  runDn (P := P) 9 o.cond o.d s fun v => onCog fun c => { c with ptra := low17 v }

/-- SETPTRB (R214). -/
def execSetptrb (o : DnOps) (s : State) (P : Params := .spec) : Result :=
  runDn (P := P) 9 o.cond o.d s fun v => onCog fun c => { c with ptrb := low17 v }

/-- ADDPTRA (R215). -/
def execAddptra (o : DnOps) (s : State) (P : Params := .spec) : Result :=
  runDn (P := P) 9 o.cond o.d s fun v => onCog fun c => { c with ptra := c.ptra + low17 v }

/-- ADDPTRB (R216). -/
def execAddptrb (o : DnOps) (s : State) (P : Params := .spec) : Result :=
  runDn (P := P) 9 o.cond o.d s fun v => onCog fun c => { c with ptrb := c.ptrb + low17 v }

/-- SUBPTRA (R217). -/
def execSubptra (o : DnOps) (s : State) (P : Params := .spec) : Result :=
  runDn (P := P) 9 o.cond o.d s fun v => onCog fun c => { c with ptra := c.ptra - low17 v }

/-- SUBPTRB (R218). -/
def execSubptrb (o : DnOps) (s : State) (P : Params := .spec) : Result :=
  runDn (P := P) 9 o.cond o.d s fun v => onCog fun c => { c with ptrb := c.ptrb - low17 v }

/-- CACHEX (R220). -/
def execCachex (o : PlainOps) (s : State) (P : Params := .spec) : Result :=
  runPlain (P := P) o.cond s <| onCog fun c => { c with qvalid := false }

/-- GETTOPS (R221). -/
def execGettops (o : DZOps) (s : State) (P : Params := .spec) : Result :=
  runD (P := P) false o.cond o.d s fun da _ => onCog fun c => deliver o.z true da (P.topsOrder c.quads) c

/-- A QUAD base that would reach INDA, INDB or the special registers (R222, D34). -/
def badQuadBase (b : RegAddr) : Bool := decide (0x1F3 ≤ b.toNat) && decide (b.toNat ≤ 0x1F7)

/-- QBASE set to `b`; a new base starts the distance of R777. -/
def mapQuads (b : RegAddr) (c : Cog) : Cog :=
  { c with qbase := b, mapAge := if b = c.qbase then c.mapAge else 0 }

/-- SETQUAD (R222). -/
def execSetquad (o : DnOps) (s : State) (P : Params := .spec) : Result :=
  runDn (P := P) 9 o.cond o.d s fun v s1 =>
    if badQuadBase (v.extractLsb' 0 9) then .refused .quadBase
    else onCog (mapQuads (v.extractLsb' 0 9)) s1

/-- SETQUAZ (R223). The hazard ages are `mapQuads`': they restart for a new base only. DESIGN CHOICE,
unsafe (notes/assumptions/63.md): at an UNCHANGED mapped base the zeros can be read and executed at
once, of which R775 to R777 say nothing. -/
def execSetquaz (o : DnOps) (s : State) (P : Params := .spec) : Result :=
  runDn (P := P) 9 o.cond o.d s fun v s1 =>
    if badQuadBase (v.extractLsb' 0 9) then .refused .quadBase
    else onCog (fun c => { mapQuads (v.extractLsb' 0 9) c with quads := Vector.replicate _ 0#32 }) s1

end Sys2Proof.Machine
end

