-- ==== Sys2Proof/Machine/Stack.lean ====
section
/-!
DEFINITION. Stack RAM instructions, calls and returns (44_stack.md).
-/
namespace Sys2Proof.Machine

/-- The low 8 bits of a long (R300). -/
def low8 (v : Word) : BitVec 8 := v.extractLsb' 0 8

/-- SETSPx, ADDSPx, SUBSPx: SPx becomes `f` of itself and the operand's low 8 bits (R300 to R305). -/
def changeSp (x : Ind) (f : BitVec 8 → BitVec 8 → BitVec 8) (o : DnOps) (s : State) (P : Params := .spec) : Result :=
  runDn (P := P) 8 o.cond o.d s fun v => onCog fun c => c.setSp x (f (c.sp x) (low8 v))

/-- SETSPA (R300). -/
def execSetspa (o : DnOps) (s : State) (P : Params := .spec) : Result := changeSp (P := P) .a (fun _ v => v) o s

/-- SETSPB (R301). -/
def execSetspb (o : DnOps) (s : State) (P : Params := .spec) : Result := changeSp (P := P) .b (fun _ v => v) o s

/-- ADDSPA (R302). -/
def execAddspa (o : DnOps) (s : State) (P : Params := .spec) : Result := changeSp (P := P) .a (fun p v => p + v) o s

/-- ADDSPB (R303). -/
def execAddspb (o : DnOps) (s : State) (P : Params := .spec) : Result := changeSp (P := P) .b (fun p v => p + v) o s

/-- SUBSPA (R304). -/
def execSubspa (o : DnOps) (s : State) (P : Params := .spec) : Result := changeSp (P := P) .a (fun p v => p - v) o s

/-- SUBSPB (R305). -/
def execSubspb (o : DnOps) (s : State) (P : Params := .spec) : Result := changeSp (P := P) .b (fun p v => p - v) o s

/-- Flags of CHKSPD and GETSPD (R306), and of CHKSPx and GETSPx (R308). -/
def diffFlags (z w : Bool) (c : Cog) : Cog :=
  writeC w (c.spa.ult c.spb) (writeZ z (c.spa == c.spb) c)

def spFlags (x : Ind) (z w : Bool) (c : Cog) : Cog :=
  writeC w ((c.sp x).getLsbD 7) (writeZ z (c.sp x == 0#8) c)

/-- CHKSPD (R306). -/
def execChkspd (o : NoDOps) (s : State) (P : Params := .spec) : Result := runPlain (P := P) o.cond s (onCog (diffFlags o.z o.c))

/-- GETSPD (R307). -/
def execGetspd (o : DZCOps) (s : State) (P : Params := .spec) : Result :=
  runD (P := P) false o.cond o.d s fun da _ => onCog fun c =>
    diffFlags o.z o.c (writeReg c da ((c.spa - c.spb).setWidth 32))

/-- CHKSPA (R308). -/
def execChkspa (o : NoDOps) (s : State) (P : Params := .spec) : Result := runPlain (P := P) o.cond s (onCog (spFlags .a o.z o.c))

/-- GETSPx (R309, R311). -/
def getSp (x : Ind) (o : DZCOps) (s : State) (P : Params := .spec) : Result :=
  runD (P := P) false o.cond o.d s fun da _ => onCog fun c =>
    spFlags x o.z o.c (writeReg c da ((c.sp x).setWidth 32))

/-- GETSPA (R309). -/
def execGetspa (o : DZCOps) (s : State) (P : Params := .spec) : Result := getSp (P := P) .a o s

/-- CHKSPB (R310). -/
def execChkspb (o : NoDOps) (s : State) (P : Params := .spec) : Result := runPlain (P := P) o.cond s (onCog (spFlags .b o.z o.c))

/-- GETSPB (R311). -/
def execGetspb (o : DZCOps) (s : State) (P : Params := .spec) : Result := getSp (P := P) .b o s

/-- PUSHA (R312). -/
def execPusha (o : DnOps) (s : State) (P : Params := .spec) : Result :=
  runDn (P := P) 9 o.cond o.d s fun v => onCog (pushUp .a v)

/-- PUSHB (R313). -/
def execPushb (o : DnOps) (s : State) (P : Params := .spec) : Result :=
  runDn (P := P) 9 o.cond o.d s fun v => onCog (pushUp .b v)

/-- PUSHAR (R314). -/
def execPushar (o : DnOps) (s : State) (P : Params := .spec) : Result :=
  runDn (P := P) 9 o.cond o.d s fun v => onCog (pushDown .a v)

/-- PUSHBR (R315). -/
def execPushbr (o : DnOps) (s : State) (P : Params := .spec) : Result :=
  runDn (P := P) 9 o.cond o.d s fun v => onCog (pushDown .b v)

/-- A pop: the long at `at_ sp` goes to D, SPx becomes `after sp`, C is its bit 31 (R320 to R323). -/
def popFrom (x : Ind) (at_ after : BitVec 8 → BitVec 8) (o : DZCOps) (s : State) (P : Params := .spec) : Result :=
  runD (P := P) false o.cond o.d s fun da _ => onCog fun c =>
    let v := readStack s.inputs c (at_ (c.sp x))
    writeC o.c v.msb (writeZ o.z (v == 0#32) (writeReg (c.setSp x (after (c.sp x))) da v))

/-- POPAR (R320). -/
def execPopar (o : DZCOps) (s : State) (P : Params := .spec) : Result := popFrom (P := P) .a (fun p => p) (fun p => p + 1#8) o s

/-- POPBR (R321). -/
def execPopbr (o : DZCOps) (s : State) (P : Params := .spec) : Result := popFrom (P := P) .b (fun p => p) (fun p => p + 1#8) o s

/-- POPA (R322). -/
def execPopa (o : DZCOps) (s : State) (P : Params := .spec) : Result :=
  popFrom (P := P) .a (fun p => p - 1#8) (fun p => p - 1#8) o s

/-- POPB (R323). -/
def execPopb (o : DZCOps) (s : State) (P : Params := .spec) : Result :=
  popFrom (P := P) .b (fun p => p - 1#8) (fun p => p - 1#8) o s

/-- A call: the frame with the return address is pushed, then the branch (R330 to R333). -/
def callWith (x : Ind) (delayed : Bool) (o : DnOps) (s : State) (P : Params := .spec) : Result :=
  runDn (P := P) 9 o.cond o.d s fun v => onCog fun c =>
    let back := s.cog.pcNow + (if delayed then P.callDReturnOffset else 1#9)
    branchIf true delayed (v.extractLsb' 0 9) (pushUp x (callFrame c.flagZ c.flagC back) c)

/-- CALLA (R330). -/
def execCalla (o : DnOps) (s : State) (P : Params := .spec) : Result := callWith (P := P) .a false o s

/-- CALLB (R331). -/
def execCallb (o : DnOps) (s : State) (P : Params := .spec) : Result := callWith (P := P) .b false o s

/-- CALLAD (R332). -/
def execCallad (o : DnOps) (s : State) (P : Params := .spec) : Result := callWith (P := P) .a true o s

/-- CALLBD (R333). -/
def execCallbd (o : DnOps) (s : State) (P : Params := .spec) : Result := callWith (P := P) .b true o s

/-- A return: the frame is popped, flags go back where WZ, WC say so, then the branch (R334 to
R337). -/
def returnWith (x : Ind) (delayed : Bool) (o : NoDOps) (s : State) (P : Params := .spec) : Result :=
  runPlain (P := P) o.cond s <| onCog fun c =>
    let v := readStack s.inputs c (c.sp x - 1#8)
    branchIf true delayed (v.extractLsb' 0 9)
      (writeC o.c (v.getLsbD 9) (writeZ o.z (v.getLsbD 10) (c.setSp x (c.sp x - 1#8))))

/-- RETA (R334). -/
def execReta (o : NoDOps) (s : State) (P : Params := .spec) : Result := returnWith (P := P) .a false o s

/-- RETB (R335). -/
def execRetb (o : NoDOps) (s : State) (P : Params := .spec) : Result := returnWith (P := P) .b false o s

/-- RETAD (R336). -/
def execRetad (o : NoDOps) (s : State) (P : Params := .spec) : Result := returnWith (P := P) .a true o s

/-- RETBD (R337). -/
def execRetbd (o : NoDOps) (s : State) (P : Params := .spec) : Result := returnWith (P := P) .b true o s

end Sys2Proof.Machine
end

