-- ==== Sys2Proof/Machine/Tasks.lean ====
section
/-!
DEFINITION. SETTASK and JMPTASK (45_multitasking.md).
-/
namespace Sys2Proof.Machine

/-- The value SETTASK writes: D, or the 8-bit immediate four times (R362). -/
def taskValue (d : DImm) (v : Word) : Word :=
  match d with
  | .reg _ => v
  | .imm _ => v.extractLsb' 0 8 ++ v.extractLsb' 0 8 ++ v.extractLsb' 0 8 ++ v.extractLsb' 0 8

/-- SETTASK (R362): the three cycles behind it are still chosen by the old value (D17). -/
def execSettask (o : DnOps) (s : State) (P : Params := .spec) : Result :=
  runDn (P := P) 8 o.cond o.d s fun v => onCog fun c =>
    { c with taskWrites := c.taskWrites ++ [⟨taskValue o.d v, 3⟩] }

/-- `jumpTask` if the mask bit of task `k` is set (R363). -/
def jumpIfMasked (mask : BitVec 4) (k : TaskId) (target : RegAddr) (c : Cog) : Cog :=
  if mask.getLsbD k.toNat then jumpTask k target c else c

/-- JMPTASK (R363). -/
def execJmptask (o : DnMaskOps) (s : State) (P : Params := .spec) : Result :=
  runDn (P := P) 9 o.cond o.d s fun v => onCog fun c =>
    let t := v.extractLsb' 0 9
    jumpIfMasked o.mask 3#2 t (jumpIfMasked o.mask 2#2 t (jumpIfMasked o.mask 1#2 t
      (jumpIfMasked o.mask 0#2 t c)))

end Sys2Proof.Machine
end

