-- ==== Sys2Proof/Machine/Dispatch.lean ====
section
/-! DEFINITION. One arm for each instruction: a call of its meaning. -/
namespace Sys2Proof.Machine

def exec (i : Instr) (s : State) : Host.Outcome State Fault Refusal :=
  match i with
  | .wrbyte o => Sys2Proof.Machine.execWrbyte o s
  | .rdbyte o => Sys2Proof.Machine.execRdbyte o s
  | .rdbytec o => Sys2Proof.Machine.execRdbytec o s
  | .wrword o => Sys2Proof.Machine.execWrword o s
  | .rdword o => Sys2Proof.Machine.execRdword o s
  | .rdwordc o => Sys2Proof.Machine.execRdwordc o s
  | .wrlong o => Sys2Proof.Machine.execWrlong o s
  | .rdlong o => Sys2Proof.Machine.execRdlong o s
  | .rdlongc o => Sys2Proof.Machine.execRdlongc o s
  | .coginit o => Sys2Proof.Machine.execCoginit o s
  | .clkset o => Sys2Proof.Machine.execClkset o s
  | .cogid o => Sys2Proof.Machine.execCogid o s
  | .cogstop o => Sys2Proof.Machine.execCogstop o s
  | .locknew o => Sys2Proof.Machine.execLocknew o s
  | .lockret o => Sys2Proof.Machine.execLockret o s
  | .lockset o => Sys2Proof.Machine.execLockset o s
  | .lockclr o => Sys2Proof.Machine.execLockclr o s
  | .cachex o => Sys2Proof.Machine.execCachex o s
  | .clracca o => Sys2Proof.Machine.execClracca o s
  | .clraccb o => Sys2Proof.Machine.execClraccb o s
  | .clraccs o => Sys2Proof.Machine.execClraccs o s
  | .fitacca o => Sys2Proof.Machine.execFitacca o s
  | .fitaccb o => Sys2Proof.Machine.execFitaccb o s
  | .fitaccs o => Sys2Proof.Machine.execFitaccs o s
  | .sndser o => Sys2Proof.Machine.execSndser o s
  | .rcvser o => Sys2Proof.Machine.execRcvser o s
  | .pushzc o => Sys2Proof.Machine.execPushzc o s
  | .popzc o => Sys2Proof.Machine.execPopzc o s
  | .subcnt o => Sys2Proof.Machine.execSubcnt o s
  | .getcnt o => Sys2Proof.Machine.execGetcnt o s
  | .getacca o => Sys2Proof.Machine.execGetacca o s
  | .getaccb o => Sys2Proof.Machine.execGetaccb o s
  | .getlfsr o => Sys2Proof.Machine.execGetlfsr o s
  | .gettops o => Sys2Proof.Machine.execGettops o s
  | .getptra o => Sys2Proof.Machine.execGetptra o s
  | .getptrb o => Sys2Proof.Machine.execGetptrb o s
  | .getpix o => Sys2Proof.Machine.execGetpix o s
  | .chkspd o => Sys2Proof.Machine.execChkspd o s
  | .getspd o => Sys2Proof.Machine.execGetspd o s
  | .chkspa o => Sys2Proof.Machine.execChkspa o s
  | .getspa o => Sys2Proof.Machine.execGetspa o s
  | .chkspb o => Sys2Proof.Machine.execChkspb o s
  | .getspb o => Sys2Proof.Machine.execGetspb o s
  | .popar o => Sys2Proof.Machine.execPopar o s
  | .popbr o => Sys2Proof.Machine.execPopbr o s
  | .popa o => Sys2Proof.Machine.execPopa o s
  | .popb o => Sys2Proof.Machine.execPopb o s
  | .reta o => Sys2Proof.Machine.execReta o s
  | .retb o => Sys2Proof.Machine.execRetb o s
  | .retad o => Sys2Proof.Machine.execRetad o s
  | .retbd o => Sys2Proof.Machine.execRetbd o s
  | .decod5 o => Sys2Proof.Machine.execDecod5 o s
  | .decod4 o => Sys2Proof.Machine.execDecod4 o s
  | .decod3 o => Sys2Proof.Machine.execDecod3 o s
  | .decod2 o => Sys2Proof.Machine.execDecod2 o s
  | .blmask o => Sys2Proof.Machine.execBlmask o s
  | .not o => Sys2Proof.Machine.execNot o s
  | .onecnt o => Sys2Proof.Machine.execOnecnt o s
  | .zercnt o => Sys2Proof.Machine.execZercnt o s
  | .incpat o => Sys2Proof.Machine.execIncpat o s
  | .decpat o => Sys2Proof.Machine.execDecpat o s
  | .bingry o => Sys2Proof.Machine.execBingry o s
  | .grybin o => Sys2Proof.Machine.execGrybin o s
  | .mergew o => Sys2Proof.Machine.execMergew o s
  | .splitw o => Sys2Proof.Machine.execSplitw o s
  | .seussf o => Sys2Proof.Machine.execSeussf o s
  | .seussr o => Sys2Proof.Machine.execSeussr o s
  | .getphsa o => Sys2Proof.Machine.execGetphsa o s
  | .getphza o => Sys2Proof.Machine.execGetphza o s
  | .getcosa o => Sys2Proof.Machine.execGetcosa o s
  | .getsina o => Sys2Proof.Machine.execGetsina o s
  | .getphsb o => Sys2Proof.Machine.execGetphsb o s
  | .getphzb o => Sys2Proof.Machine.execGetphzb o s
  | .getcosb o => Sys2Proof.Machine.execGetcosb o s
  | .getsinb o => Sys2Proof.Machine.execGetsinb o s
  | .jmptask o => Sys2Proof.Machine.execJmptask o s
  | .nopx o => Sys2Proof.Machine.execNopx o s
  | .setzc o => Sys2Proof.Machine.execSetzc o s
  | .setspa o => Sys2Proof.Machine.execSetspa o s
  | .setspb o => Sys2Proof.Machine.execSetspb o s
  | .addspa o => Sys2Proof.Machine.execAddspa o s
  | .addspb o => Sys2Proof.Machine.execAddspb o s
  | .subspa o => Sys2Proof.Machine.execSubspa o s
  | .subspb o => Sys2Proof.Machine.execSubspb o s
  | .pushar o => Sys2Proof.Machine.execPushar o s
  | .pushbr o => Sys2Proof.Machine.execPushbr o s
  | .pusha o => Sys2Proof.Machine.execPusha o s
  | .pushb o => Sys2Proof.Machine.execPushb o s
  | .calla o => Sys2Proof.Machine.execCalla o s
  | .callb o => Sys2Proof.Machine.execCallb o s
  | .callad o => Sys2Proof.Machine.execCallad o s
  | .callbd o => Sys2Proof.Machine.execCallbd o s
  | .wrquad o => Sys2Proof.Machine.execWrquad o s
  | .rdquad o => Sys2Proof.Machine.execRdquad o s
  | .rdquadc o => Sys2Proof.Machine.execRdquadc o s
  | .setptra o => Sys2Proof.Machine.execSetptra o s
  | .setptrb o => Sys2Proof.Machine.execSetptrb o s
  | .addptra o => Sys2Proof.Machine.execAddptra o s
  | .addptrb o => Sys2Proof.Machine.execAddptrb o s
  | .subptra o => Sys2Proof.Machine.execSubptra o s
  | .subptrb o => Sys2Proof.Machine.execSubptrb o s
  | .setpix o => Sys2Proof.Machine.execSetpix o s
  | .setpixu o => Sys2Proof.Machine.execSetpixu o s
  | .setpixv o => Sys2Proof.Machine.execSetpixv o s
  | .setpixz o => Sys2Proof.Machine.execSetpixz o s
  | .setpixa o => Sys2Proof.Machine.execSetpixa o s
  | .setpixr o => Sys2Proof.Machine.execSetpixr o s
  | .setpixg o => Sys2Proof.Machine.execSetpixg o s
  | .setpixb o => Sys2Proof.Machine.execSetpixb o s
  | .settask o => Sys2Proof.Machine.execSettask o s
  | .cfgdac0 o => Sys2Proof.Machine.execCfgdac0 o s
  | .cfgdac1 o => Sys2Proof.Machine.execCfgdac1 o s
  | .cfgdac2 o => Sys2Proof.Machine.execCfgdac2 o s
  | .cfgdac3 o => Sys2Proof.Machine.execCfgdac3 o s
  | .setdac0 o => Sys2Proof.Machine.execSetdac0 o s
  | .setdac1 o => Sys2Proof.Machine.execSetdac1 o s
  | .setdac2 o => Sys2Proof.Machine.execSetdac2 o s
  | .setdac3 o => Sys2Proof.Machine.execSetdac3 o s
  | .cfgdacs o => Sys2Proof.Machine.execCfgdacs o s
  | .setdacs o => Sys2Proof.Machine.execSetdacs o s
  | .getp o => Sys2Proof.Machine.execGetp o s
  | .getpn o => Sys2Proof.Machine.execGetpn o s
  | .offp o => Sys2Proof.Machine.execOffp o s
  | .notp o => Sys2Proof.Machine.execNotp o s
  | .clrp o => Sys2Proof.Machine.execClrp o s
  | .setp o => Sys2Proof.Machine.execSetp o s
  | .setpc o => Sys2Proof.Machine.execSetpc o s
  | .setpnc o => Sys2Proof.Machine.execSetpnc o s
  | .setpz o => Sys2Proof.Machine.execSetpz o s
  | .setpnz o => Sys2Proof.Machine.execSetpnz o s
  | .setmap o => Sys2Proof.Machine.execSetmap o s
  | .setquad o => Sys2Proof.Machine.execSetquad o s
  | .setquaz o => Sys2Proof.Machine.execSetquaz o s
  | .setport o => Sys2Proof.Machine.execSetport o s
  | .setpora o => Sys2Proof.Machine.execSetpora o s
  | .setporb o => Sys2Proof.Machine.execSetporb o s
  | .setporc o => Sys2Proof.Machine.execSetporc o s
  | .setpord o => Sys2Proof.Machine.execSetpord o s
  | .setxch o => Sys2Proof.Machine.execSetxch o s
  | .setxfr o => Sys2Proof.Machine.execSetxfr o s
  | .setser o => Sys2Proof.Machine.execSetser o s
  | .setskip o => Sys2Proof.Machine.execSetskip o s
  | .setvid o => Sys2Proof.Machine.execSetvid o s
  | .setvidy o => Sys2Proof.Machine.execSetvidy o s
  | .setvidi o => Sys2Proof.Machine.execSetvidi o s
  | .setvidq o => Sys2Proof.Machine.execSetvidq o s
  | .setctra o => Sys2Proof.Machine.execSetctra o s
  | .setwava o => Sys2Proof.Machine.execSetwava o s
  | .setfrqa o => Sys2Proof.Machine.execSetfrqa o s
  | .setphsa o => Sys2Proof.Machine.execSetphsa o s
  | .addphsa o => Sys2Proof.Machine.execAddphsa o s
  | .subphsa o => Sys2Proof.Machine.execSubphsa o s
  | .synctra o => Sys2Proof.Machine.execSynctra o s
  | .capctra o => Sys2Proof.Machine.execCapctra o s
  | .setctrb o => Sys2Proof.Machine.execSetctrb o s
  | .setwavb o => Sys2Proof.Machine.execSetwavb o s
  | .setfrqb o => Sys2Proof.Machine.execSetfrqb o s
  | .setphsb o => Sys2Proof.Machine.execSetphsb o s
  | .addphsb o => Sys2Proof.Machine.execAddphsb o s
  | .subphsb o => Sys2Proof.Machine.execSubphsb o s
  | .synctrb o => Sys2Proof.Machine.execSynctrb o s
  | .capctrb o => Sys2Proof.Machine.execCapctrb o s
  | .isob o => Sys2Proof.Machine.execIsob o s
  | .notb o => Sys2Proof.Machine.execNotb o s
  | .clrb o => Sys2Proof.Machine.execClrb o s
  | .setb o => Sys2Proof.Machine.execSetb o s
  | .setbc o => Sys2Proof.Machine.execSetbc o s
  | .setbnc o => Sys2Proof.Machine.execSetbnc o s
  | .setbz o => Sys2Proof.Machine.execSetbz o s
  | .setbnz o => Sys2Proof.Machine.execSetbnz o s
  | .setacca o => Sys2Proof.Machine.execSetacca o s
  | .setaccb o => Sys2Proof.Machine.execSetaccb o s
  | .maca o => Sys2Proof.Machine.execMaca o s
  | .macb o => Sys2Proof.Machine.execMacb o s
  | .mul o => Sys2Proof.Machine.execMul o s
  | .scl o => Sys2Proof.Machine.execScl o s
  | .setindaAddr o => Sys2Proof.Machine.execSetindaAddr o s
  | .setindaDelta o => Sys2Proof.Machine.execSetindaDelta o s
  | .setindbAddr o => Sys2Proof.Machine.execSetindbAddr o s
  | .setindbDelta o => Sys2Proof.Machine.execSetindbDelta o s
  | .setindsAddrAddr o => Sys2Proof.Machine.execSetindsAddrAddr o s
  | .setindsAddrDelta o => Sys2Proof.Machine.execSetindsAddrDelta o s
  | .setindsDeltaAddr o => Sys2Proof.Machine.execSetindsDeltaAddr o s
  | .setindsDeltaDelta o => Sys2Proof.Machine.execSetindsDeltaDelta o s
  | .fixinda o => Sys2Proof.Machine.execFixinda o s
  | .fixindb o => Sys2Proof.Machine.execFixindb o s
  | .fixinds o => Sys2Proof.Machine.execFixinds o s
  | .enc o => Sys2Proof.Machine.execEnc o s
  | .jmpret o => Sys2Proof.Machine.execJmpret o s
  | .ror o => Sys2Proof.Machine.execRor o s
  | .rol o => Sys2Proof.Machine.execRol o s
  | .shr o => Sys2Proof.Machine.execShr o s
  | .shl o => Sys2Proof.Machine.execShl o s
  | .rcr o => Sys2Proof.Machine.execRcr o s
  | .rcl o => Sys2Proof.Machine.execRcl o s
  | .sar o => Sys2Proof.Machine.execSar o s
  | .rev o => Sys2Proof.Machine.execRev o s
  | .mins o => Sys2Proof.Machine.execMins o s
  | .maxs o => Sys2Proof.Machine.execMaxs o s
  | .min o => Sys2Proof.Machine.execMin o s
  | .max o => Sys2Proof.Machine.execMax o s
  | .movs o => Sys2Proof.Machine.execMovs o s
  | .movd o => Sys2Proof.Machine.execMovd o s
  | .movi o => Sys2Proof.Machine.execMovi o s
  | .jmpretd o => Sys2Proof.Machine.execJmpretd o s
  | .and o => Sys2Proof.Machine.execAnd o s
  | .andn o => Sys2Proof.Machine.execAndn o s
  | .or o => Sys2Proof.Machine.execOr o s
  | .xor o => Sys2Proof.Machine.execXor o s
  | .muxc o => Sys2Proof.Machine.execMuxc o s
  | .muxnc o => Sys2Proof.Machine.execMuxnc o s
  | .muxz o => Sys2Proof.Machine.execMuxz o s
  | .muxnz o => Sys2Proof.Machine.execMuxnz o s
  | .add o => Sys2Proof.Machine.execAdd o s
  | .sub o => Sys2Proof.Machine.execSub o s
  | .addabs o => Sys2Proof.Machine.execAddabs o s
  | .subabs o => Sys2Proof.Machine.execSubabs o s
  | .sumc o => Sys2Proof.Machine.execSumc o s
  | .sumnc o => Sys2Proof.Machine.execSumnc o s
  | .sumz o => Sys2Proof.Machine.execSumz o s
  | .sumnz o => Sys2Proof.Machine.execSumnz o s
  | .mov o => Sys2Proof.Machine.execMov o s
  | .neg o => Sys2Proof.Machine.execNeg o s
  | .abs o => Sys2Proof.Machine.execAbs o s
  | .absneg o => Sys2Proof.Machine.execAbsneg o s
  | .negc o => Sys2Proof.Machine.execNegc o s
  | .negnc o => Sys2Proof.Machine.execNegnc o s
  | .negz o => Sys2Proof.Machine.execNegz o s
  | .negnz o => Sys2Proof.Machine.execNegnz o s
  | .cmps o => Sys2Proof.Machine.execCmps o s
  | .cmpsx o => Sys2Proof.Machine.execCmpsx o s
  | .addx o => Sys2Proof.Machine.execAddx o s
  | .subx o => Sys2Proof.Machine.execSubx o s
  | .adds o => Sys2Proof.Machine.execAdds o s
  | .subs o => Sys2Proof.Machine.execSubs o s
  | .addsx o => Sys2Proof.Machine.execAddsx o s
  | .subsx o => Sys2Proof.Machine.execSubsx o s
  | .subr o => Sys2Proof.Machine.execSubr o s
  | .cmpsub o => Sys2Proof.Machine.execCmpsub o s
  | .incmod o => Sys2Proof.Machine.execIncmod o s
  | .decmod o => Sys2Proof.Machine.execDecmod o s
  | .ijz o => Sys2Proof.Machine.execIjz o s
  | .ijzd o => Sys2Proof.Machine.execIjzd o s
  | .ijnz o => Sys2Proof.Machine.execIjnz o s
  | .ijnzd o => Sys2Proof.Machine.execIjnzd o s
  | .djz o => Sys2Proof.Machine.execDjz o s
  | .djzd o => Sys2Proof.Machine.execDjzd o s
  | .djnz o => Sys2Proof.Machine.execDjnz o s
  | .djnzd o => Sys2Proof.Machine.execDjnzd o s
  | .tjz o => Sys2Proof.Machine.execTjz o s
  | .tjzd o => Sys2Proof.Machine.execTjzd o s
  | .tjnz o => Sys2Proof.Machine.execTjnz o s
  | .tjnzd o => Sys2Proof.Machine.execTjnzd o s
  | .cfgpins o => Sys2Proof.Machine.execCfgpins o s
  | .waitvid o => Sys2Proof.Machine.execWaitvid o s
  | .waitcnt o => Sys2Proof.Machine.execWaitcnt o s
  | .waitpeq o => Sys2Proof.Machine.execWaitpeq o s
  | .waitpne o => Sys2Proof.Machine.execWaitpne o s
  | .setindaOld o => Sys2Proof.Machine.execSetindaOld o s
  | .setindbOld o => Sys2Proof.Machine.execSetindbOld o s
  | .setcog o => Sys2Proof.Machine.execSetcog o s
  | .reps o => Sys2Proof.Machine.execReps o s
  | .repd o => Sys2Proof.Machine.execRepd o s
  | .getmull o => Sys2Proof.Machine.execGetmull o s
  | .getmulh o => Sys2Proof.Machine.execGetmulh o s
  | .getdivq o => Sys2Proof.Machine.execGetdivq o s
  | .getdivr o => Sys2Proof.Machine.execGetdivr o s
  | .getsqrt o => Sys2Proof.Machine.execGetsqrt o s
  | .getqx o => Sys2Proof.Machine.execGetqx o s
  | .getqy o => Sys2Proof.Machine.execGetqy o s
  | .getqz o => Sys2Proof.Machine.execGetqz o s
  | .polctra o => Sys2Proof.Machine.execPolctra o s
  | .polctrb o => Sys2Proof.Machine.execPolctrb o s
  | .polvid o => Sys2Proof.Machine.execPolvid o s
  | .passcnt o => Sys2Proof.Machine.execPasscnt o s
  | .jp o => Sys2Proof.Machine.execJp o s
  | .jnp o => Sys2Proof.Machine.execJnp o s
  | .nop => Sys2Proof.Machine.execNop s
  | .jmp o => Sys2Proof.Machine.execJmp o s
  | .jmpd o => Sys2Proof.Machine.execJmpd o s
  | .call o => Sys2Proof.Machine.execCall o s
  | .ret o => Sys2Proof.Machine.execRet o s
  | .calld o => Sys2Proof.Machine.execCalld o s
  | .retd o => Sys2Proof.Machine.execRetd o s

end Sys2Proof.Machine
end

