-- ==== Sys2Proof/Machine/Cycle.lean ====
section
/-!
DEFINITION. One instruction cycle of a COG (45_multitasking.md R361, 48_branch_wait.md R560, R561):
choosing the task, delayed branches that come due, cancelled and skipped slots, the fetch with the
hazards of 70_reset_and_hazards.md R771 to R780; and how time passes between steps.
-/
namespace Sys2Proof.Machine

/-! ### The start of a cycle -/

/-- Delayed branches of the task that are due take effect, oldest first (R560, R561). -/
def fireDelayed (t : TaskRegs) : TaskRegs :=
  { t with
    pc := (t.delayed.filter fun e => e.rem == 0).foldl (fun _ e => e.target) t.pc
    delayed := t.delayed.filter fun e => e.rem != 0 }

/-- TASK with the writes that are due (R362, D17). -/
def dueTask (c : Cog) : Word :=
  (c.taskWrites.filter fun e => e.rem == 0).foldl (fun _ e => e.value) c.task

/-- The task that owns this cycle: the two low bits of TASK (R361). -/
def slotTask (c : Cog) : TaskId := (dueTask c).extractLsb' 0 2

/-- The slot executes nothing: its task is in the shadow of a normal branch (R560). -/
def slotCancelled (c : Cog) : Bool := decide (0 < (c.tasks.rd (slotTask c)).flush)

/-- The counters of a task run down by one cycle (R560). -/
def countDown (t : TaskRegs) : TaskRegs :=
  { t with flush := t.flush - 1, delayed := t.delayed.map fun e => { e with rem := e.rem - 1 } }

/-- The counters of all four tasks run down (R560). -/
def countAll (b : Bank 2 TaskRegs) : Bank 2 TaskRegs :=
  #v[countDown (b.rd 0#2), countDown (b.rd 1#2), countDown (b.rd 2#2), countDown (b.rd 3#2)]

/-- An age grows by one slot, up to `longAgo` (R780). -/
def older (n : Nat) : Nat := if n < longAgo then n + 1 else longAgo

/-- The COG at the start of a cycle: the task is chosen and TASK rotated right by two (R361), due
branches take effect, the counters run down (what the instruction then sets reads 3 in the next
cycle, as R560 has it), and the hazard notes of R780 move on by one slot. -/
def beginSlot (c : Cog) : Cog :=
  let t := slotTask c
  { c with
    task := (dueTask c).rotateRight 2
    taskWrites := (c.taskWrites.filter fun e => e.rem != 0).map fun e => { e with rem := e.rem - 1 }
    cur := t
    tasks := countAll (c.tasks.wr t (fireDelayed (c.tasks.rd t)))
    stalled := false
    fillAge := older c.fillAge
    mapAge := older c.mapAge
    wrote0 := none
    wrote1 := c.wrote0
    wrote2 := c.wrote1 }

/-! ### The slot -/

/-- A cancelled slot: nothing but the phases of R401 changes (R560, D36). -/
def cancelSlot (s : State) : State :=
  s.setCog { s.cog with cntPhase := false, accaPhase := false, accbPhase := false }

/-- SETSKIP governs this instruction, and says NOP (R453). -/
def skipsThis (c : Cog) : Bool := c.skipTask == c.cur && c.skip.getLsbD 0

/-- The pattern after an instruction of its task (R453). -/
def useSkipBit (c : Cog) : Cog := if c.skipTask = c.cur then { c with skip := c.skip >>> 1 } else c

/-- Addresses that are no place to fetch from (R22, D12). -/
def noFetch (a : RegAddr) : Bool := decide (0x1F6 ≤ a.toNat)

/-- The long at the program counter (R22, R36). -/
def fetch (c : Cog) : Word :=
  match quadIndex c c.pcNow with
  | some k => c.quads.rd k
  | none => c.ram.rd c.pcNow

/-- The long was written one or two slots before (R771, U5). -/
def changedTooRecently (c : Cog) : Bool :=
  c.wrote1 == some c.pcNow || c.wrote2 == some c.pcNow

/-- A QUAD is executed too soon (R776, R777, U6). -/
def quadFetchHazard (c : Cog) : Bool :=
  (quadIndex c c.pcNow).isSome && (decide (c.fillAge < 5) || decide (c.mapAge < 5))

/-- What executing the long `w` does: its instruction, or where it is none and its condition fails,
nothing (R151, R158). `P` are the parameters of R6, `ex` is what an instruction does under them. -/
noncomputable def runWord (w : Word) (s : State) (P : Params := .spec)
    (ex : Instr → State → Result := exec) : Result :=
  match decode w with
  | .ok i => ex i s
  | .error e =>
    match conditionOfAnyWord w with
    | none => .refused (.badWord e)
    | some cond =>
      if P.condTable cond s.cog.flagZ s.cog.flagC then .refused (.badWord e)
      else .next (skipSlot s)

/-- The slot of a task that executes. -/
noncomputable def runSlot (s : State) (P : Params := .spec)
    (ex : Instr → State → Result := exec) : Result :=
  if noFetch s.cog.pcNow then .refused .fetchSpecial
  else if skipsThis s.cog then .next (skipSlot (s.setCog (useSkipBit s.cog)))
  else if changedTooRecently s.cog then .refused .modifiedTooRecently
  else if quadFetchHazard s.cog then .refused .quadTooSoon
  else runWord (fetch s.cog) (s.setCog (useSkipBit s.cog)) P ex

/-- The state in which the slot of the COG whose turn it is executes. -/
def enterSlot (s : State) : State := s.setCog (beginSlot s.cog)

/-- One cycle of a running COG, before time passes. -/
noncomputable def cycle (s : State) (P : Params := .spec)
    (ex : Instr → State → Result := exec) : Result :=
  if slotCancelled s.cog then .next (cancelSlot (enterSlot s)) else runSlot (enterSlot s) P ex

/-! ### Time -/

/-- The COGs that can step. -/
def activeCogs (s : State) : List CogId :=
  ((List.range 8).map (BitVec.ofNat 3)).filter fun n => !isIdle (s.cogs.rd n)

/-- Clocks until the WAITCNT in which the COG waits is over; none if it waits in none (R596). -/
def clocksAwaited (cnt : BitVec 64) (c : Cog) : Option Nat :=
  if c.run = .running then
    c.held.bind fun h => h.half.map fun high => clocksUntil high cnt h.d
  else none

/-- Of `most` clocks those that pass before some COG's WAITCNT is over: it ends at the clock at which
its half of CNT equals the target (R596, R791). -/
def clocksThatPass (most : Nat) (s : State) : Nat :=
  ((List.range 8).filterMap fun n =>
    clocksAwaited s.cnt (s.cogs.rd (BitVec.ofNat 3 n))).foldl min most

/-- The COGs whose WAITCNT is over now. -/
def dueCogs (s : State) : List CogId :=
  ((List.range 8).map (BitVec.ofNat 3)).filter fun n =>
    clocksAwaited s.cnt (s.cogs.rd n) == some 0

/-- The COG that steps next: one whose WAITCNT is over, else any of those that can (R90). -/
def nextTurn (s : State) : CogId :=
  match dueCogs s with
  | n :: _ => n
  | [] =>
    match activeCogs s with
    | [] => s.turn
    | [n] => n
    | l => l.getD (Config.cogPick s.tick % l.length) s.turn

/-- CNT advances by `clocks`, but not past the end of a WAITCNT. -/
def advanceCnt (clocks : BitVec 64) (s : State) : State :=
  { s with cnt := s.cnt + BitVec.ofNat 64 (clocksThatPass clocks.toNat s) }

/-- Time passes: up to `clocks` clocks, then the environment draws anew and the next COG's turn comes. -/
def passTime (clocks : BitVec 64) (s : State) : State :=
  { advanceCnt clocks s with
    inputs := Config.inputs s.tick
    turn := nextTurn (advanceCnt clocks s)
    tick := s.tick + 1 }

/-- The end of a step that did something. -/
def finish (s : State) : State := passTime ((Config.moreClocks s.tick).setWidth 64) s

/-- A step of a COG whose instruction waits: it will be tried again a clock later, unchanged but for
the operands `h` that it holds (R595). -/
def waitTick (h : Option Held) (s : State) : State :=
  passTime 1#64 (s.setCog { s.cog with stalled := true, held := h })

/-- Which of the longs `left` a loading COG reads in this step: any of them (R95). -/
def nextLoad (tick : Nat) (left : List RegAddr) : RegAddr :=
  left.getD (Config.loadPick tick % left.length) 0#9

/-- One of the NOPs of a NOPX: it holds the whole pipeline of the COG (R452). -/
def nopStep (s : State) : State := s.setCog { s.cog with nops := s.cog.nops - 1#32 }

/-- One step of the COG whose turn it is, up to its end. -/
noncomputable def cogStep (s : State) (P : Params := .spec)
    (ex : Instr → State → Result := exec) : Result :=
  match s.cog.run with
  | .idle => .next (finish s)
  | .stuck => .next (finish s)
  | .loading left a =>
    .next (finish (s.setCog (loadLong s.mem (nextLoad s.tick left) left a s.cog)))
  | .running =>
    if s.cog.nops ≠ 0#32 then .next (finish (nopStep s))
    else
      match cycle s P ex with
      | .next t => .next (if t.cog.stalled then waitTick t.cog.held s else finish t)
      | .fault r => .fault r
      | .refused r => .refused r

/-! ### Where a step fetches -/

/-- The COG with the long `w` where its next instruction is fetched. -/
def putFetchWord (w : Word) (c : Cog) : Cog :=
  let a := (beginSlot c).pcNow
  match quadIndex c a with
  | some k => { c with quads := c.quads.wr k w }
  | none => { c with ram := c.ram.wr a w }

end Sys2Proof.Machine
end

