-- ==== Sys2Proof/Machine/Step.lean ====
section
/-!
DEFINITION. One step of the chip: one instruction cycle of one COG, one read of a COG start, or time
passing while every COG is idle (00_scope.md R13, 45_multitasking.md R361).
-/
namespace Sys2Proof.Machine

noncomputable def step (s : State) : Host.Outcome State Fault Refusal := cogStep s

/-- `s` with the instruction `w` where `step` fetches its next instruction (notes/assumptions/2.md). -/
def State.withFetchWord (s : State) (_nbits w : Nat) : State :=
  s.setCog (putFetchWord (BitVec.ofNat 32 w) s.cog)

end Sys2Proof.Machine
end

