-- ==== Sys2Proof/Safety.lean ====
section
/-!
DEFINITION. The terms the statements about the machine use: when an instruction is ready to execute,
what it did and what it left alone, the invariant of the machine, and what a safe run is. The machine
itself does not use this file.
-/
namespace Sys2Proof.Machine

/-! ### Runs -/

/-- The state after `n` steps, if none of them is refused. -/
noncomputable def runFor : Nat → State → Option State
  | 0, s => some s
  | n + 1, s =>
    match step s with
    | .next t => runFor n t
    | .fault _ => none
    | .refused _ => none

/-- The machine has no faults (R720), so a run is safe as long as nothing is refused. -/
def SafeFor (n : Nat) (s : State) : Prop := (runFor n s).isSome = true

/-! ### When an instruction executes -/

/-- A D,S instruction executes, and no QUAD it reads is too fresh (R124, R276, R775, R777). -/
def readyDS (reads : Bool) (cond : Cond) (d : Reg) (x : Src) (s : State) : Prop :=
  executes s.cog cond (d.isInd || x.isInd) = true ∧ (reads && regHazard s.cog d) = false ∧
    srcHazard s.cog x = false

/-- The same for an instruction with the register operand D alone. -/
def readyD (reads : Bool) (cond : Cond) (d : Reg) (s : State) : Prop :=
  executes s.cog cond d.isInd = true ∧ (reads && regHazard s.cog d) = false

/-- The same for a D/#n instruction. -/
def readyDn (cond : Cond) (d : DImm) (s : State) : Prop :=
  executes s.cog cond d.isInd = true ∧ dimmHazard s.cog d = false

/-- The same for a HUB memory instruction with a data register. -/
def readyHub (reads : Bool) (cond : Cond) (d : Reg) (x : HubOperand) (s : State) : Prop :=
  executes s.cog cond (d.isInd || x.isInd) = true ∧ (reads && regHazard s.cog d) = false ∧
    hubHazard s.cog x = false

/-- The same for a QUAD transfer. -/
def readyQuad (cond : Cond) (x : HubOperand) (s : State) : Prop :=
  executes s.cog cond x.isInd = true ∧ hubHazard s.cog x = false

/-- An instruction without register operands executes. -/
def readyPlain (cond : Cond) (s : State) : Prop := executes s.cog cond false = true

/-! ### Operand values before the instruction -/

/-- `Da`. -/
def addrOf (s : State) (d : Reg) : RegAddr := regAddr s.cog d

/-- `Dv`. -/
def valueOf (s : State) (d : Reg) : Word := readReg s.inputs s.cog (regAddr s.cog d)

/-- `Sv`. -/
def sourceOf (s : State) (x : Src) : Word := srcValue s.inputs s.cog x

/-- The value of a D/#n operand whose immediate is `w` bits wide. -/
def numberOf (w : Nat) (s : State) (d : DImm) : Word := dimmValue w s.inputs s.cog d

/-! ### What an instruction did -/

/-- The byte that a store of the `2 ^ k` bytes `v` to `ea` puts at `b`, if it puts one there: the low
`k` bits of the address are dropped, and the lowest byte lies lowest (R82 to R84, R86). -/
def storedByte {w : Nat} (k : Nat) (ea : HubAddress) (v : BitVec w) (b : HubAddress) : Option Byte :=
  if b >>> k = ea >>> k then some (v.extractLsb' (8 * (b.toNat % 2 ^ k)) 8) else none

/-- The sixteen bytes of a quad, QUAD0 lowest (R84, R190). -/
def quadBits (q : Bank 2 Word) : BitVec 128 := q.rd 3#2 ++ q.rd 2#2 ++ q.rd 1#2 ++ q.rd 0#2

/-- All an instruction can do. What a field does not name is left alone. -/
structure Effect where
  /-- the register written, and its value -/
  write  : Option (RegAddr × Word) := none
  /-- the new Z -/
  z      : Option Bool := none
  /-- the new C -/
  c      : Option Bool := none
  /-- a branch: delayed or not, and its target -/
  branch : Option (Bool × RegAddr) := none
  /-- the repeat unit, where the instruction sets it up -/
  rep    : Option Rep := none
  /-- the bytes of HUB memory written, and their values -/
  bytes  : HubAddress → Option Byte := fun _ => none
  /-- other state of the executing COG -/
  cog    : Cog → Cog := id
  /-- other state of the chip -/
  chip   : State → State := id

/-- The phases of GETCNT, GETACCA, GETACCB reset, as every slot does (R401), and nothing held for a wait
any more (R595). -/
def quiet (c : Cog) : Cog :=
  { c with cntPhase := false, accaPhase := false, accbPhase := false, held := none }

/-- Pin `p` lies in the window that register `a` is: PINx, or DIRx if `dirs` (R615). -/
def windowHit (c : Cog) (dirs : Bool) (a : RegAddr) (p : BitVec 7) : Bool :=
  isSpecial a && a.getLsbD 2 == dirs && c.por.rd (a.extractLsb' 0 2) == p.extractLsb' 5 2

/-- COG `c` is `b` with register `x` written: the RAM register, or the pins of the window `x` is, and
the QUAD over `x` if one lies there (R22, R36, R615); every other register, QUAD and pin as in `b`. -/
structure RegisterWritten (b c : Cog) (x : RegAddr) (v : Word) : Prop where
  ram   : ∀ a, c.ram.rd a = if a = x ∧ isSpecial x = false then v else b.ram.rd a
  quads : ∀ k, c.quads.rd k = if quadIndex b x = some k then v else b.quads.rd k
  out   : ∀ p : BitVec 7, c.out.getLsbD p.toNat =
    if windowHit b false x p then v.getLsbD (p.toNat % 32) else b.out.getLsbD p.toNat
  dir   : ∀ p : BitVec 7, c.dir.getLsbD p.toNat =
    if windowHit b true x p then v.getLsbD (p.toNat % 32) else b.dir.getLsbD p.toNat
  note  : c.wrote0 = some x

/-- Every register, QUAD and pin of `c` is as in `b`. -/
structure RegistersKept (b c : Cog) : Prop where
  ram   : c.ram = b.ram
  quads : c.quads = b.quads
  out   : c.out = b.out
  dir   : c.dir = b.dir
  note  : c.wrote0 = b.wrote0

/-- The flow of control: `pre` is the COG before the instruction, `post` after it (R25, R560, R561, R454). -/
structure Flowed (e : Effect) (pre post : Cog) : Prop where
  others  : ∀ k, k ≠ pre.cur → post.tasks.rd k = pre.tasks.rd k
  flagZ   : post.flagZ = e.z.getD pre.flagZ
  flagC   : post.flagC = e.c.getD pre.flagC
  pc      : post.pcNow =
    match e.branch with
    | some (false, target) => target
    | _ => (nextPc pre).1
  flush   : post.tsk.flush =
    match e.branch with
    | some (false, _) => 3
    | _ => pre.tsk.flush
  delayed : post.tsk.delayed =
    match e.branch with
    | none => pre.tsk.delayed
    | some (false, _) => []
    | some (true, target) => pre.tsk.delayed ++ [⟨target, 3⟩]
  rep     : post.rep = e.rep.getD (nextPc pre).2

/-- The state of a COG that none of RegisterWritten, RegistersKept, Flowed and the pointer clauses of
Did speak about. -/
def Cog.rest (c : Cog) : Cog :=
  { c with
    ram := Vector.replicate _ 0#32, quads := Vector.replicate _ 0#32, out := 0#128, dir := 0#128
    wrote0 := none, tasks := startTasks, rep := ⟨0#32, 0#5, 0#9, 0#2⟩
    inda := ⟨0#9, 0#9, 0#9⟩, indb := ⟨0#9, 0#9, 0#9⟩ }

/-- An instruction whose register operands are `d` and `x` led from `s` to `t` with effect `e`, and
changed nothing else. -/
structure Did (e : Effect) (d x : Reg) (s t : State) : Prop where
  mem    : ∀ a, readByte t.mem a = (e.bytes a).getD (readByte s.mem a)
  locks  : t.locks = (e.chip s).locks
  clk    : t.clk = (e.chip s).clk
  cnt    : t.cnt = s.cnt
  pinCfg : t.pinCfg = (e.chip s).pinCfg
  inputs : t.inputs = s.inputs
  turn   : t.turn = s.turn
  tick   : t.tick = s.tick
  others : ∀ n, n ≠ s.turn → t.cogs.rd n = (e.chip s).cogs.rd n
  regs   :
    match e.write with
    | some w => RegisterWritten (e.cog (quiet s.cog)) t.cog w.1 w.2
    | none => RegistersKept (e.cog (quiet s.cog)) t.cog
  flow   : Flowed e s.cog t.cog
  inda   : t.cog.inda = indAfter (e.cog (quiet s.cog)).inda (modFor .a d ||| modFor .a x)
  indb   : t.cog.indb = indAfter (e.cog (quiet s.cog)).indb (modFor .b d ||| modFor .b x)
  rest   : t.cog.rest = (e.cog (quiet s.cog)).rest

/-- Instruction `i` completes in `s`, with effect `e` and nothing else. -/
def Completes (i : Instr) (d x : Reg) (e : Effect) (s : State) : Prop :=
  ∃ t, exec i s = .next t ∧ Did e d x s t

/-! ### What instructions of one operand form do -/

/-- `WriteD(v); WriteZ(zf); WriteC(cf)` (R126). -/
def resultEffect (z c r : Bool) (a : RegAddr) (v : Word) (zf cf : Bool) : Effect where
  write := if r then some (a, v) else none
  z     := if z then some zf else none
  c     := if c then some cf else none

/-- A core instruction completes with the result, Z and C that `f` gives for Dv, Sv, Z and C (R470). -/
def AluDoes (mk : AluOps → Instr) (reads : Bool)
    (f : Word → Word → Bool → Bool → Word × Bool × Bool) : Prop :=
  ∀ (o : AluOps) (s : State), readyDS reads o.cond o.d o.s s →
    Completes (mk o) o.d (srcReg o.s)
      (resultEffect o.z o.c o.r (addrOf s o.d)
        (f (valueOf s o.d) (sourceOf s o.s) s.cog.flagZ s.cog.flagC).1
        (f (valueOf s o.d) (sourceOf s o.s) s.cog.flagZ s.cog.flagC).2.1
        (f (valueOf s o.d) (sourceOf s o.s) s.cog.flagZ s.cog.flagC).2.2) s

/-- The same for an instruction without C, whose Z is "result is zero". -/
def AluZDoes (mk : AluZOps → Instr) (reads : Bool) (f : Word → Word → Word) : Prop :=
  ∀ (o : AluZOps) (s : State), readyDS reads o.cond o.d o.s s →
    Completes (mk o) o.d (srcReg o.s)
      (resultEffect o.z false o.r (addrOf s o.d) (f (valueOf s o.d) (sourceOf s o.s))
        (decide (f (valueOf s o.d) (sourceOf s o.s) = 0#32)) false) s

/-- An instruction with D alone: the result `f` gives for the state and Dv, Z "result is zero", and the
change `g` of other state (R390). -/
def DzrDoes (mk : DZROps → Instr) (reads : Bool) (f : State → Word → Word)
    (g : State → Cog → Cog := fun _ c => c) : Prop :=
  ∀ (o : DZROps) (s : State), readyD reads o.cond o.d s →
    Completes (mk o) o.d noReg
      { resultEffect o.z false o.r (addrOf s o.d) (f s (valueOf s o.d))
          (decide (f s (valueOf s o.d) = 0#32)) false with cog := g s } s

/-- A D/#n instruction whose immediate is `w` bits wide: the effect `f` gives for the state and the
operand (R128, R129). -/
def DnDoes (mk : DnOps → Instr) (w : Nat) (f : State → Word → Effect) : Prop :=
  ∀ (o : DnOps) (s : State), readyDn o.cond o.d s →
    Completes (mk o) (dimmReg o.d) noReg (f s (numberOf w s o.d)) s

/-- A D/#n instruction that only gives other state of the COG a new value (R610). -/
def DnSets (mk : DnOps → Instr) (w : Nat) (f : Word → Cog → Cog) : Prop :=
  DnDoes mk w fun _ v => { cog := f v }

/-- An instruction that reads D and S and has the effect `f` gives for the state, Dv and Sv. -/
def DsDoes (mk : DSOps → Instr) (f : State → Word → Word → Effect) : Prop :=
  ∀ (o : DSOps) (s : State), readyDS true o.cond o.d o.s s →
    Completes (mk o) o.d (srcReg o.s) (f s (valueOf s o.d) (sourceOf s o.s)) s

/-- An instruction without register operands. -/
def PlainDoes {α : Type} (mk : α → Instr) (cond : α → Cond) (f : α → State → Effect) : Prop :=
  ∀ (o : α) (s : State), readyPlain (cond o) s → Completes (mk o) noReg noReg (f o s) s

/-! ### The invariant of the machine -/

/-- A task's pipeline counters stay in the ranges of R48. -/
structure TaskOk (t : TaskRegs) : Prop where
  flush   : t.flush ≤ 3
  delayed : ∀ e ∈ t.delayed, e.rem ≤ 3

/-- What holds of a COG that is not idle: task counters in range (R48), written TASK values at most
three cycles old (R362), a QUAD base that SETQUAD admits (R222), ages as far as the hazards look (R780),
and a load of some of its $1F8 longs, each still to be read once, from a long-aligned address (R95,
R241). -/
structure CogOk (c : Cog) : Prop where
  tasks      : ∀ k, TaskOk (c.tasks.rd k)
  taskWrites : ∀ e ∈ c.taskWrites, e.rem ≤ 3
  qbase      : badQuadBase c.qbase = false
  fillAge    : c.fillAge ≤ longAgo
  mapAge     : c.mapAge ≤ longAgo
  loading    : ∀ left a, c.run = .loading left a →
    left ≠ [] ∧ (∀ k ∈ left, k.toNat < loadSize) ∧ left.Nodup ∧ alignTo 2 a = a

/-- The invariant: memory in canonical form, every COG that is not idle in order, and a turn that
belongs to a COG that can step if there is one (R90). -/
structure Inv (s : State) : Prop where
  mem  : Memory.wf s.mem = true
  cogs : ∀ n, isIdle (s.cogs.rd n) = false → CogOk (s.cogs.rd n)
  turn : (∃ n, isIdle (s.cogs.rd n) = false) → isIdle s.cog = false

end Sys2Proof.Machine
end

