-- ==== Sys2Proof/Certificates/Slice0/Obligations.lean ====
section
/-!
DEFINITION. The statements about the machine. `Completes i d x e s` (Sys2Proof/Safety.lean) says that
instruction `i` answers a next state in `s` and that this state differs from `s` by the effect `e`, by
the steps of INDA and INDB that the operands `d` and `x` name, by the move of the PC and the repeat
unit and by the reset of the read phases, and by NOTHING else: it is the frame of the instruction.
-/
open Sys2Proof Sys2Proof.Machine

/-- ROR, ROL, SHR, SHL, RCR, RCL, SAR and REV complete with the result, Z and C of their rules. R473
to R480 in the scheme of R470; the flag rules are those of D3 (notes/assumptions/12.md). -/
def Obligations.ShiftAndRotateResults : Prop :=
  AluDoes .ror true (fun d s _ _ =>
    let v := d.rotateRight (s.toNat % 32)
    (v, decide (v = 0#32), d.getLsbD 0)) ∧
  AluDoes .rol true (fun d s _ _ =>
    let v := d.rotateLeft (s.toNat % 32)
    (v, decide (v = 0#32), d.getLsbD 31)) ∧
  AluDoes .shr true (fun d s _ _ =>
    let v := d >>> (s.toNat % 32)
    (v, decide (v = 0#32), d.getLsbD 0)) ∧
  AluDoes .shl true (fun d s _ _ =>
    let v := d <<< (s.toNat % 32)
    (v, decide (v = 0#32), d.getLsbD 31)) ∧
  AluDoes .rcr true (fun d s _ c =>
    let v := if c then ~~~(~~~d >>> (s.toNat % 32)) else d >>> (s.toNat % 32)
    (v, decide (v = 0#32), d.getLsbD 0)) ∧
  AluDoes .rcl true (fun d s _ c =>
    let v := if c then ~~~(~~~d <<< (s.toNat % 32)) else d <<< (s.toNat % 32)
    (v, decide (v = 0#32), d.getLsbD 31)) ∧
  AluDoes .sar true (fun d s _ _ =>
    let v := d.sshiftRight (s.toNat % 32)
    (v, decide (v = 0#32), d.getLsbD 0)) ∧
  AluDoes .rev true (fun d s _ _ =>
    let v := d.reverse >>> (s.toNat % 32)
    (v, decide (v = 0#32), d.getLsbD 0))

/-- MINS, MAXS, MIN and MAX complete with the limited value, Z for a zero S and C for less-than.
R481 to R484; Z is the default of the parameter MinMaxZ (notes/assumptions/12.md). -/
def Obligations.LimitResults : Prop :=
  AluDoes .mins true (fun d s _ _ =>
    (if d.toInt < s.toInt then s else d, decide (s = 0#32), decide (d.toInt < s.toInt))) ∧
  AluDoes .maxs true (fun d s _ _ =>
    (if d.toInt < s.toInt then d else s, decide (s = 0#32), decide (d.toInt < s.toInt))) ∧
  AluDoes .min true (fun d s _ _ =>
    (if d.toNat < s.toNat then s else d, decide (s = 0#32), decide (d.toNat < s.toNat))) ∧
  AluDoes .max true (fun d s _ _ =>
    (if d.toNat < s.toNat then d else s, decide (s = 0#32), decide (d.toNat < s.toNat)))

/-- AND, ANDN, OR, XOR and the MUXxx complete with their bitwise result, Z for zero and C the
parity. The rules R488 to R495 name the instructions; their results and C = parity of the result are the
P8X32A's, taken over by D3 and G7: the model's choice, PRESUMED (notes/assumptions/12.md). -/
def Obligations.LogicResults : Prop :=
  let out := fun v : Word =>
    (v, decide (v = 0#32), (List.range 32).foldl (fun p i => Bool.xor p (v.getLsbD i)) false)
  AluDoes .and true (fun d s _ _ => out (d &&& s)) ∧
  AluDoes .andn true (fun d s _ _ => out (d &&& ~~~s)) ∧
  AluDoes .or true (fun d s _ _ => out (d ||| s)) ∧
  AluDoes .xor true (fun d s _ _ => out (d ^^^ s)) ∧
  AluDoes .muxc true (fun d s _ c => out (if c then d ||| s else d &&& ~~~s)) ∧
  AluDoes .muxnc true (fun d s _ c => out (if c then d &&& ~~~s else d ||| s)) ∧
  AluDoes .muxz true (fun d s z _ => out (if z then d ||| s else d &&& ~~~s)) ∧
  AluDoes .muxnz true (fun d s z _ => out (if z then d &&& ~~~s else d ||| s))

/-- ADD, SUB, ADDABS, SUBABS, SUBR and CMPSUB complete with the wrapped result and the unsigned
carry or borrow. R496 to R499, R520, R521, on exact numbers. Results and carries are the P8X32A's, taken
over by D3 and G7: the model's choice, PRESUMED (notes/assumptions/12.md); the C of SUBR, the borrow of
S - D, is the decision D42 of the spec (logged there too). -/
def Obligations.AddAndSubtractResults : Prop :=
  let sum := fun n m : Nat =>
    (BitVec.ofNat 32 (n + m), decide ((n + m) % 2 ^ 32 = 0), decide (2 ^ 32 ≤ n + m))
  let difference := fun n m : Nat =>
    (BitVec.ofInt 32 ((n : Int) - m), decide (n = m), decide (n < m))
  AluDoes .add true (fun d s _ _ => sum d.toNat s.toNat) ∧
  AluDoes .sub true (fun d s _ _ => difference d.toNat s.toNat) ∧
  AluDoes .addabs true (fun d s _ _ => sum d.toNat s.toInt.natAbs) ∧
  AluDoes .subabs true (fun d s _ _ => difference d.toNat s.toInt.natAbs) ∧
  AluDoes .subr true (fun d s _ _ => difference s.toNat d.toNat) ∧
  AluDoes .cmpsub true (fun d s _ _ =>
    (if s.toNat ≤ d.toNat then BitVec.ofNat 32 (d.toNat - s.toNat) else d,
      decide (d.toNat = s.toNat), decide (s.toNat ≤ d.toNat)))

/-- SUMxx, ADDS and SUBS complete with the wrapped result and C for signed overflow. R500 to R503,
R516, R517: signed overflow is stated as "the exact result is not the value of the wrapped one". Results
and that C are the P8X32A's, taken over by D3 and G7: the model's choice, PRESUMED
(notes/assumptions/12.md). -/
def Obligations.SignedSumResults : Prop :=
  let out := fun x : Int =>
    let v := BitVec.ofInt 32 x
    (v, decide (v = 0#32), decide (v.toInt ≠ x))
  AluDoes .sumc true (fun d s _ c => out (if c then d.toInt - s.toInt else d.toInt + s.toInt)) ∧
  AluDoes .sumnc true (fun d s _ c => out (if c then d.toInt + s.toInt else d.toInt - s.toInt)) ∧
  AluDoes .sumz true (fun d s z _ => out (if z then d.toInt - s.toInt else d.toInt + s.toInt)) ∧
  AluDoes .sumnz true (fun d s z _ => out (if z then d.toInt + s.toInt else d.toInt - s.toInt)) ∧
  AluDoes .adds true (fun d s _ _ => out (d.toInt + s.toInt)) ∧
  AluDoes .subs true (fun d s _ _ => out (d.toInt - s.toInt))

/-- ADDX, SUBX, ADDSX, SUBSX, CMPS and CMPSX complete with carry in, chained Z and their C. R512 to
R515, R518, R519. The C and the chained Z are the P8X32A's, taken over by D3 and G7: the model's choice,
PRESUMED (notes/assumptions/12.md). -/
def Obligations.ExtendedArithmeticResults : Prop :=
  let signed := fun (z : Bool) (x : Int) =>
    let v := BitVec.ofInt 32 x
    (v, z && decide (v = 0#32), decide (v.toInt ≠ x))
  let bit := fun c : Bool => if c then (1 : Int) else 0
  AluDoes .addx true (fun d s z c =>
    let n := d.toNat + s.toNat + c.toNat
    (BitVec.ofNat 32 n, z && decide (n % 2 ^ 32 = 0), decide (2 ^ 32 ≤ n))) ∧
  AluDoes .subx true (fun d s z c =>
    let v := BitVec.ofInt 32 ((d.toNat : Int) - s.toNat - bit c)
    (v, z && decide (v = 0#32), decide (d.toNat < s.toNat + c.toNat))) ∧
  AluDoes .addsx true (fun d s z c => signed z (d.toInt + s.toInt + bit c)) ∧
  AluDoes .subsx true (fun d s z c => signed z (d.toInt - s.toInt - bit c)) ∧
  AluDoes .cmps true (fun d s _ _ =>
    (BitVec.ofInt 32 (d.toInt - s.toInt), decide (d = s), decide (d.toInt < s.toInt))) ∧
  AluDoes .cmpsx true (fun d s z c =>
    let v := BitVec.ofInt 32 (d.toInt - s.toInt - bit c)
    (v, z && decide (v = 0#32), decide (d.toInt < s.toInt + bit c)))

/-- MOV, NEG, ABS, ABSNEG and the NEGxx complete without reading D, with C the sign of S. R504 to
R511. Results and C = bit 31 of S are the P8X32A's, taken over by D3 and G7: the model's choice, PRESUMED
(notes/assumptions/12.md). -/
def Obligations.MoveAndNegateResults : Prop :=
  let out := fun (s : Word) (x : Int) =>
    (BitVec.ofInt 32 x, decide (BitVec.ofInt 32 x = 0#32), s.getLsbD 31)
  AluDoes .mov false (fun _ s _ _ => out s s.toInt) ∧
  AluDoes .neg false (fun _ s _ _ => out s (-s.toInt)) ∧
  AluDoes .abs false (fun _ s _ _ => out s |s.toInt|) ∧
  AluDoes .absneg false (fun _ s _ _ => out s (-|s.toInt|)) ∧
  AluDoes .negc false (fun _ s _ c => out s (if c then -s.toInt else s.toInt)) ∧
  AluDoes .negnc false (fun _ s _ c => out s (if c then s.toInt else -s.toInt)) ∧
  AluDoes .negz false (fun _ s z _ => out s (if z then -s.toInt else s.toInt)) ∧
  AluDoes .negnz false (fun _ s z _ => out s (if z then s.toInt else -s.toInt))

/-- ENC, MOVS, MOVD, MOVI, INCMOD and DECMOD complete with their value and Z for zero. R472 (EncFn
at its default, notes/assumptions/14.md), R485 to R487, R522, R523. What MOVS and MOVD replace is the
P8X32A's (PRESUMED, notes/assumptions/12.md), that MOVI replaces bits 31:23 is G4
(notes/assumptions/60.md), INCMOD and DECMOD are the decision D42 of the spec
(notes/assumptions/12.md). -/
def Obligations.FieldMoveEncodeAndModuloResults : Prop :=
  AluZDoes .enc false (fun _ s => BitVec.ofNat 32 s.toNat.size) ∧
  AluZDoes .movs true (fun d s =>
    BitVec.ofNat 32 (d.toNat / 2 ^ 9 * 2 ^ 9 + s.toNat % 2 ^ 9)) ∧
  AluZDoes .movd true (fun d s =>
    BitVec.ofNat 32 (d.toNat / 2 ^ 18 * 2 ^ 18 + s.toNat % 2 ^ 9 * 2 ^ 9 + d.toNat % 2 ^ 9)) ∧
  AluZDoes .movi true (fun d s =>
    BitVec.ofNat 32 (s.toNat % 2 ^ 9 * 2 ^ 23 + d.toNat % 2 ^ 23)) ∧
  AluZDoes .incmod true (fun d s =>
    if s.toNat ≤ d.toNat then 0#32 else BitVec.ofNat 32 (d.toNat + 1)) ∧
  AluZDoes .decmod true (fun d s => if d = 0#32 then s else BitVec.ofNat 32 (d.toNat - 1))

/-- MUL, SCL, MACA, MACB, SETACCA and SETACCB complete on the 24-bit product and the 64-bit
accumulators. R394 to R400 with MulFn, SclFn, MacFn at their defaults (notes/assumptions/13.md). The Z of
MUL and SCL, "result is zero", is D19 by R390, a choice (notes/assumptions/17.md). -/
def Obligations.MultiplyAndAccumulateResults : Prop :=
  let p := fun d s : Word => d.toNat % 2 ^ 24 * (s.toNat % 2 ^ 24)
  let mulDoes := fun (mk : MulOps → Instr) (f : Word → Word → Word) =>
    ∀ (o : MulOps) (s : State), readyDS true o.cond o.d o.s s →
      Completes (mk o) o.d (srcReg o.s)
        (resultEffect o.z false true (addrOf s o.d) (f (valueOf s o.d) (sourceOf s o.s))
          (decide (f (valueOf s o.d) (sourceOf s o.s) = 0#32)) false) s
  mulDoes .mul (fun d s => BitVec.ofNat 32 (p d s)) ∧
  mulDoes .scl (fun d s => BitVec.ofNat 32 (p d s / 2 ^ 16)) ∧
  DsDoes .maca (fun _ d s =>
    { cog := fun c => { c with acca := BitVec.ofNat 64 (c.acca.toNat + p d s) } }) ∧
  DsDoes .macb (fun _ d s =>
    { cog := fun c => { c with accb := BitVec.ofNat 64 (c.accb.toNat + p d s) } }) ∧
  DsDoes .setacca (fun _ d s =>
    { cog := fun c => { c with acca := BitVec.ofNat 64 (s.toNat * 2 ^ 32 + d.toNat) } }) ∧
  DsDoes .setaccb (fun _ d s =>
    { cog := fun c => { c with accb := BitVec.ofNat 64 (s.toNat * 2 ^ 32 + d.toNat) } })

/-- CLRACCx zero the accumulators and FITACCx justify them, leaving the shift count in the high
long. R402 to R407 with FitCount at its default (notes/assumptions/16.md). -/
def Obligations.ClearAndFitAccumulators : Prop :=
  let count := fun v : BitVec 64 => v.toNat.size - 32
  let fit := fun (n : Nat) (v : BitVec 64) =>
    BitVec.ofNat 64 (n * 2 ^ 32 + v.toNat / 2 ^ n % 2 ^ 32)
  let does := fun (mk : SelOps → Instr) (f : Cog → Cog) =>
    PlainDoes mk (·.cond) fun _ _ => { cog := f }
  does .clracca (fun c => { c with acca := 0#64 }) ∧
  does .clraccb (fun c => { c with accb := 0#64 }) ∧
  does .clraccs (fun c => { c with acca := 0#64, accb := 0#64 }) ∧
  does .fitacca (fun c => { c with acca := fit (count c.acca) c.acca }) ∧
  does .fitaccb (fun c => { c with accb := fit (count c.accb) c.accb }) ∧
  does .fitaccs (fun c =>
    { c with
      acca := fit (max (count c.acca) (count c.accb)) c.acca
      accb := fit (max (count c.acca) (count c.accb)) c.accb })

/-- GETCNT, GETACCA and GETACCB read low then high long by their phase; SUBCNT and GETLFSR read
theirs. R390 to R393, R401, R408, R409. The phases and what resets them are D40
(notes/assumptions/40.md), the latch that GETCNT fills is D31 (notes/assumptions/8.md), what GETLFSR
shows is a free input (notes/assumptions/7.md), Z is "result is zero" by D19
(notes/assumptions/17.md). -/
def Obligations.CounterAndAccumulatorReads : Prop :=
  DzrDoes .getcnt false
    (fun s _ => if s.cog.cntPhase then BitVec.ofNat 32 (s.cog.cntl.toNat / 2 ^ 32)
      else BitVec.ofNat 32 s.cnt.toNat)
    (fun s c => if s.cog.cntPhase then c else { c with cntl := s.cnt, cntPhase := true }) ∧
  DzrDoes .getacca false
    (fun s _ => if s.cog.accaPhase then BitVec.ofNat 32 (s.cog.acca.toNat / 2 ^ 32)
      else BitVec.ofNat 32 s.cog.acca.toNat)
    (fun s c => if s.cog.accaPhase then c else { c with accaPhase := true }) ∧
  DzrDoes .getaccb false
    (fun s _ => if s.cog.accbPhase then BitVec.ofNat 32 (s.cog.accb.toNat / 2 ^ 32)
      else BitVec.ofNat 32 s.cog.accb.toNat)
    (fun s c => if s.cog.accbPhase then c else { c with accbPhase := true }) ∧
  DzrDoes .subcnt false
    (fun s _ => BitVec.ofInt 32 ((s.cnt.toNat : Int) - s.cog.cntl.toNat)) ∧
  DzrDoes .getlfsr false (fun s _ => s.inputs.lfsr)

/-- DECODk, BLMASK, NOT, ONECNT, ZERCNT, BINGRY, GRYBIN, MERGEW and SPLITW complete with the bits of
their rules. R420 to R427 and R430 to R433 in the scheme of R390; BlmaskFn at its default
(notes/assumptions/14.md). Z "result is zero" is D19, a choice (R390, notes/assumptions/17.md). That
BINGRY and GRYBIN are the reflected Gray code is G6, general knowledge that the source does not state
(R430, R431, notes/assumptions/66.md). -/
def Obligations.SingleOperandFunctionResults : Prop :=
  let decod := fun (k : Nat) (d : Word) =>
    BitVec.ofFnLE fun i : Fin 32 => decide (i.val % 2 ^ k = d.toNat % 2 ^ k)
  DzrDoes .decod5 true (fun _ d => decod 5 d) ∧
  DzrDoes .decod4 true (fun _ d => decod 4 d) ∧
  DzrDoes .decod3 true (fun _ d => decod 3 d) ∧
  DzrDoes .decod2 true (fun _ d => decod 2 d) ∧
  DzrDoes .blmask true (fun _ d => BitVec.ofFnLE fun i : Fin 32 => decide (i.val < d.toNat % 64)) ∧
  DzrDoes .not true (fun _ d => ~~~d) ∧
  DzrDoes .onecnt true (fun _ d =>
    BitVec.ofNat 32 (Finset.univ.filter fun i : Fin 32 => d.getLsbD i = true).card) ∧
  DzrDoes .zercnt true (fun _ d =>
    BitVec.ofNat 32 (Finset.univ.filter fun i : Fin 32 => d.getLsbD i = false).card) ∧
  DzrDoes .bingry true (fun _ d =>
    BitVec.ofFnLE fun i : Fin 32 => Bool.xor (d.getLsbD i) (d.getLsbD (i + 1))) ∧
  DzrDoes .grybin true (fun _ d =>
    BitVec.ofFnLE fun i : Fin 32 =>
      (List.range 32).foldl (fun p j => Bool.xor p (decide (i.val ≤ j) && d.getLsbD j)) false) ∧
  DzrDoes .mergew true (fun _ d =>
    BitVec.ofFnLE fun i : Fin 32 => d.getLsbD (i.val / 2 + 16 * (i.val % 2))) ∧
  DzrDoes .splitw true (fun _ d =>
    BitVec.ofFnLE fun i : Fin 32 => d.getLsbD (2 * (i.val % 16) + i.val / 16))

/-- INCPAT writes the next larger long with as many ones, or after the last one the first; DECPAT undoes
that; SEUSSF and SEUSSR undo each other. R428, R429, R434, R435. Numeric order with wrap-around is D24,
the model's choice where the source gives no order (notes/assumptions/14.md); what SEUSSF does is unknown
but for the laws of D25 (notes/assumptions/15.md); Z is D19 (notes/assumptions/17.md). -/
def Obligations.PatternAndSequenceResults : Prop :=
  let ones := fun v : Word => (Finset.univ.filter fun i : Fin 32 => v.getLsbD i = true).card
  DzrDoes .incpat true (fun _ d => incpatFn d) ∧
  (∀ d : Word,
    ((∃ v, ones v = ones d ∧ d.toNat < v.toNat) →
      ones (incpatFn d) = ones d ∧ d.toNat < (incpatFn d).toNat ∧
      ∀ v, ones v = ones d → d.toNat < v.toNat → (incpatFn d).toNat ≤ v.toNat) ∧
    ((¬ ∃ v, ones v = ones d ∧ d.toNat < v.toNat) → (incpatFn d).toNat = 2 ^ ones d - 1)) ∧
  DzrDoes .decpat true (fun _ d => decpatFn d) ∧
  (∀ d, decpatFn (incpatFn d) = d ∧ incpatFn (decpatFn d) = d) ∧
  DzrDoes .seussf true (fun _ d => seussF d) ∧
  DzrDoes .seussr true (fun _ d => seussR d) ∧
  ∀ d, seussR (seussF d) = d ∧ seussF (seussR d) = d ∧ seussF^[32] d = d

/-- PUSHZC, POPZC and SETZC move the flags through D or from the operand. R440 to R442. -/
def Obligations.FlagInstructionResults : Prop :=
  let bit := fun b : Bool => if b then 1 else 0
  (∀ (o : DZCROps) (s : State), readyD true o.cond o.d s →
    Completes (.pushzc o) o.d noReg
      (resultEffect o.z o.c o.r (addrOf s o.d)
        (BitVec.ofNat 32 ((valueOf s o.d).toNat * 4 + 2 * bit s.cog.flagZ + bit s.cog.flagC))
        ((valueOf s o.d).getLsbD 31) ((valueOf s o.d).getLsbD 30)) s) ∧
  (∀ (o : DZCROps) (s : State), readyD true o.cond o.d s →
    Completes (.popzc o) o.d noReg
      (resultEffect o.z o.c o.r (addrOf s o.d)
        (BitVec.ofNat 32 (bit s.cog.flagZ * 2 ^ 31 + bit s.cog.flagC * 2 ^ 30 +
          (valueOf s o.d).toNat / 4))
        ((valueOf s o.d).getLsbD 1) ((valueOf s o.d).getLsbD 0)) s) ∧
  ∀ (o : DnZCOps) (s : State), readyDn o.cond o.d s →
    Completes (.setzc o) (dimmReg o.d) noReg
      (resultEffect o.z o.c false 0#9 0#32 ((numberOf 9 s o.d).getLsbD 1)
        ((numberOf 9 s o.d).getLsbD 0)) s

/-- ISOB keeps one bit of D and clears the others; NOTB, CLRB, SETB and the SETBxx change one bit; Z is
for the new value. R443 to R451, bit by bit. That Z is "result is zero" is D19, the model's choice
(notes/assumptions/17.md). -/
def Obligations.BitInstructionResults : Prop :=
  let does := fun (mk : DBitOps → Instr) (f : Bool → Bool → Bool → Bool) (keep : Bool) =>
    ∀ (o : DBitOps) (s : State), readyD true o.cond o.d s →
      let d := valueOf s o.d
      let v : Word := BitVec.ofFnLE fun i : Fin 32 =>
        if i.val = o.b.toNat then f (d.getLsbD i) s.cog.flagZ s.cog.flagC else keep && d.getLsbD i
      Completes (mk o) o.d noReg
        (resultEffect o.z false o.r (addrOf s o.d) v (decide (v = 0#32)) false) s
  does .isob (fun x _ _ => x) false ∧
  does .notb (fun x _ _ => !x) true ∧
  does .clrb (fun _ _ _ => false) true ∧
  does .setb (fun _ _ _ => true) true ∧
  does .setbc (fun _ _ c => c) true ∧
  does .setbnc (fun _ _ c => !c) true ∧
  does .setbz (fun _ z _ => z) true ∧
  does .setbnz (fun _ z _ => !z) true

/-- WRBYTE, WRWORD and WRLONG store the low bytes of D at the aligned address and change no other
byte. R180, R183, R186 with the address of R171 and the alignment of R83. The stored bytes are
those of `storedByte`, computed at the address the meaning computes. -/
def Obligations.HubStoresWriteTheirBytesOnly : Prop :=
  let does := fun (mk : HubWrOps → Instr) (k : Nat) (w : Nat) =>
    ∀ (o : HubWrOps) (s : State), readyHub true o.cond o.d o.addr s → Memory.wf s.mem = true →
      inRom (hubAddr k s.inputs s.cog o.addr) = false →
      Completes (mk o) o.d (hubReg o.addr)
        { bytes := storedByte k (hubAddr k s.inputs s.cog o.addr) ((valueOf s o.d).setWidth w)
          cog := hubAfter k o.addr } s
  does .wrbyte 0 8 ∧ does .wrword 1 16 ∧ does .wrlong 2 32

/-- RDBYTE, RDWORD and RDLONG put the zero-extended bytes of the aligned unit into D and change no
memory. R181, R184, R187; D is written always (R174). That Z is "result is zero" rests on G5 and D19
(notes/assumptions/17.md). -/
def Obligations.HubLoadsReadTheirBytes : Prop :=
  let does := fun (mk : HubRdOps → Instr) (k : Nat) (f : (HubAddress → Byte) → HubAddress → Word) =>
    ∀ (o : HubRdOps) (s : State), readyHub false o.cond o.d o.addr s →
      let v := f (readByte s.mem) (hubAddr k s.inputs s.cog o.addr)
      Completes (mk o) o.d (hubReg o.addr)
        { resultEffect o.z false true (addrOf s o.d) v (decide (v = 0#32)) false with
          cog := hubAfter k o.addr } s
  does .rdbyte 0 (fun m a => (m a).setWidth 32) ∧
  does .rdword 1 (fun m a => (m (a ||| 1#17) ++ m (a &&& 0x1FFFE#17)).setWidth 32) ∧
  does .rdlong 2 (fun m a =>
    let b := a &&& 0x1FFFC#17
    m (b ||| 3#17) ++ m (b ||| 2#17) ++ m (b ||| 1#17) ++ m b)

/-- RDBYTEC, RDWORDC and RDLONGC fill the QUADs on a miss and deliver the bytes the QUADs then hold.
R173, R182, R185, R188; a hit can be stale (R91). When the cache hits, when it is valid and that it is
never updated are D8, a choice (notes/assumptions/29.md); that QUADk carries the long at Align(addr,16) + 4k,
both in the fill and in the byte delivered, is D38, a choice (R84, notes/assumptions/68.md); Z is D19
(notes/assumptions/17.md). -/
def Obligations.CachedLoadsReadTheQuads : Prop :=
  let hit := fun (c : Cog) (a : HubAddress) => c.qvalid && decide (c.qtag.toNat = a.toNat / 16)
  let block := fun (m : HubAddress → Byte) (a : HubAddress) (i : Nat) =>
    m (BitVec.ofNat 17 (a.toNat / 16 * 16 + i))
  let long := fun (m : HubAddress → Byte) (a : HubAddress) (k : Nat) =>
    block m a (4 * k + 3) ++ block m a (4 * k + 2) ++ block m a (4 * k + 1) ++ block m a (4 * k)
  let load := fun (m : HubAddress → Byte) (a : HubAddress) (c : Cog) =>
    if hit c a then c
    else
      { c with
        quads := #v[long m a 0, long m a 1, long m a 2, long m a 3]
        qtag := BitVec.ofNat 13 (a.toNat / 16), qvalid := true, fillAge := 0 }
  let does := fun (mk : HubRdOps → Instr) (k : Nat) =>
    ∀ (o : HubRdOps) (s : State), readyHub false o.cond o.d o.addr s →
      let a := hubAddr k s.inputs s.cog o.addr
      let q := quadBits (load (readByte s.mem) a s.cog).quads
      let v := BitVec.ofNat 32
        (q.toNat / 2 ^ (8 * (a.toNat % 16 / 2 ^ k * 2 ^ k)) % 2 ^ (8 * 2 ^ k))
      Completes (mk o) o.d (hubReg o.addr)
        { resultEffect o.z false true (addrOf s o.d) v (decide (v = 0#32)) false with
          cog := fun c => load (readByte s.mem) a (hubAfter k o.addr c) } s
  does .rdbytec 0 ∧ does .rdwordc 1 ∧ does .rdlongc 2

/-- WRQUAD stores the four QUADs, RDQUAD loads them, RDQUADC loads them only on a miss. R190 to
R192. What a fill does to the QUADs is stated in CachedLoadsReadTheQuads. Choices: when RDQUADC hits, that
RDQUAD makes the cache valid and that WRQUAD leaves it valid are D8 (R173, notes/assumptions/29.md); which
long is QUAD0 in the load and the store is D38 (R84, notes/assumptions/68.md). -/
def Obligations.QuadTransfers : Prop :=
  (∀ (o : QuadOps) (s : State), readyQuad o.cond o.addr s → Memory.wf s.mem = true →
    inRom (hubAddr 4 s.inputs s.cog o.addr) = false →
    Completes (.wrquad o) (hubReg o.addr) noReg
      { bytes := storedByte 4 (hubAddr 4 s.inputs s.cog o.addr) (quadBits s.cog.quads)
        cog := hubAfter 4 o.addr } s) ∧
  (∀ (o : QuadOps) (s : State), readyQuad o.cond o.addr s →
    Completes (.rdquad o) (hubReg o.addr) noReg
      { cog := fun c =>
          cacheFill s.mem (hubAddr 4 s.inputs s.cog o.addr) (hubAfter 4 o.addr c) } s) ∧
  ∀ (o : QuadOps) (s : State), readyQuad o.cond o.addr s →
    Completes (.rdquadc o) (hubReg o.addr) noReg
      { cog := fun c =>
          if s.cog.qvalid = true ∧ s.cog.qtag.toNat = (hubAddr 4 s.inputs s.cog o.addr).toNat / 16
          then hubAfter 4 o.addr c
          else cacheFill s.mem (hubAddr 4 s.inputs s.cog o.addr) (hubAfter 4 o.addr c) } s

/-- A PTR expression uses and updates PTRA or PTRB by its index times the scale, modulo 2^17. R134,
R171, on exact integers. That the arithmetic is modulo 2^17 and that the upper bits of a register operand
are ignored is D5, a choice (notes/assumptions/30.md). -/
def Obligations.PtrExpressionAddresses : Prop :=
  ∀ (k : Nat), k ≤ 4 → ∀ (inp : Inputs) (c : Cog) (e : PtrExpr) (x : Reg),
    let p := if e.useB then c.ptrb else c.ptra
    let moved := BitVec.ofInt 17 ((p.toNat : Int) + e.index.toInt * 2 ^ k)
    hubAddr k inp c (.ptr e) = (if e.post then p else moved) ∧
    hubAfter k (.ptr e) c =
      (if e.upd then (if e.useB then { c with ptrb := moved } else { c with ptra := moved }) else c) ∧
    hubAddr k inp c (.reg x) = BitVec.ofNat 17 (readReg inp c (regAddr c x)).toNat ∧
    hubAfter k (.reg x) c = c

/-- GETPTRx read, SETPTRx set, ADDPTRx and SUBPTRx move PTRA and PTRB modulo 2^17. R210 to R218. The
arithmetic modulo 2^17 and the zero upper bits of what GETPTRx reads are D5 (notes/assumptions/30.md), Z
is D19 (notes/assumptions/17.md). -/
def Obligations.PointerInstructionResults : Prop :=
  let get := fun (mk : DZCROps → Instr) (p : Cog → HubAddress) =>
    ∀ (o : DZCROps) (s : State), readyD false o.cond o.d s →
      Completes (mk o) o.d noReg
        (resultEffect o.z o.c o.r (addrOf s o.d) (BitVec.ofNat 32 (p s.cog).toNat)
          (decide (p s.cog = 0#17)) (decide (2 ^ 16 ≤ (p s.cog).toNat))) s
  let low := fun v : Word => BitVec.ofNat 17 v.toNat
  get .getptra (·.ptra) ∧ get .getptrb (·.ptrb) ∧
  DnSets .setptra 9 (fun v c => { c with ptra := low v }) ∧
  DnSets .setptrb 9 (fun v c => { c with ptrb := low v }) ∧
  DnSets .addptra 9 (fun v c => { c with ptra := c.ptra + low v }) ∧
  DnSets .addptrb 9 (fun v c => { c with ptrb := c.ptrb + low v }) ∧
  DnSets .subptra 9 (fun v c => { c with ptra := c.ptra - low v }) ∧
  DnSets .subptrb 9 (fun v c => { c with ptrb := c.ptrb - low v })

/-- CACHEX, GETTOPS, SETQUAD and SETQUAZ complete; a base in $1F3..$1F7 is refused. R220 to R223;
the byte order of GETTOPS is TopsOrder at its default (notes/assumptions/44.md), the refused
bases are D34 (notes/assumptions/28.md). Choices also: Z of GETTOPS is D19 (R221, notes/assumptions/17.md),
SETQUAZ leaves QVALID and QTAG by D8 (R223, notes/assumptions/29.md), and at an unchanged base it starts no
distance of R777 again (notes/assumptions/63.md). -/
def Obligations.QuadControlResults : Prop :=
  let top := fun v : Word => v.toNat / 2 ^ 24
  let base := fun (s : State) (o : DnOps) => BitVec.ofNat 9 (numberOf 9 s o.d).toNat
  let bad := fun b : RegAddr => 0x1F3 ≤ b.toNat ∧ b.toNat ≤ 0x1F7
  let map := fun (b : RegAddr) (c : Cog) =>
    { c with qbase := b, mapAge := if b = c.qbase then c.mapAge else 0 }
  PlainDoes .cachex (·.cond) (fun _ _ => { cog := fun c => { c with qvalid := false } }) ∧
  (∀ (o : DZOps) (s : State), readyD false o.cond o.d s →
    let q := s.cog.quads
    let v := BitVec.ofNat 32 (top (q.rd 0#2) + top (q.rd 1#2) * 2 ^ 8 + top (q.rd 2#2) * 2 ^ 16 +
      top (q.rd 3#2) * 2 ^ 24)
    Completes (.gettops o) o.d noReg
      (resultEffect o.z false true (addrOf s o.d) v (decide (v = 0#32)) false) s) ∧
  (∀ (o : DnOps) (s : State), readyDn o.cond o.d s →
    (¬ bad (base s o) → Completes (.setquad o) (dimmReg o.d) noReg { cog := map (base s o) } s ∧
      Completes (.setquaz o) (dimmReg o.d) noReg
        { cog := fun c => { map (base s o) c with quads := Vector.replicate _ 0#32 } } s) ∧
    (bad (base s o) →
      exec (.setquad o) s = .refused .quadBase ∧ exec (.setquaz o) s = .refused .quadBase))

/-- COGINIT starts the selected COG, or the lowest idle one, and reports its number; without one it
reports failure. R241 and the "after COG start" column of R54. NextIdleCog is the lowest (D10),
the fixed mode delivers D and C by D29 (notes/assumptions/31.md, 32.md). All $1F8 longs are still to be
read, in any order (R95; notes/assumptions/10.md). Z "number is zero" is D19 (notes/assumptions/17.md), and
that REP, SKIP and NOPX are inactive after the start is D35 (R54, notes/assumptions/67.md) and that the cache
is invalid D8 (notes/assumptions/29.md), choices; no start undoes that a counter has been started (R688) or
video used (notes/assumptions/47.md, 57.md). -/
def Obligations.CoginitStartsOneCog : Prop :=
  ∀ (o : CogIniOps) (s : State), readyDS true o.cond o.d (.reg o.s) s →
    let a := BitVec.ofNat 17 ((valueOf s o.d).toNat / 4 * 4)
    let p := BitVec.ofNat 17 (sourceOf s (.reg o.s)).toNat
    let lowestIdle := fun n : CogId => isIdle (s.cogs.rd n) = true ∧
      ∀ m : CogId, m.toNat < n.toNat → isIdle (s.cogs.rd m) = false
    let started := fun (n : CogId) (t : State) =>
      (∃ left : List RegAddr, (t.cogs.rd n).run = .loading left a ∧ left.Nodup ∧
        ∀ r : RegAddr, r ∈ left ↔ r.toNat < 0x1F8) ∧ (t.cogs.rd n).held = none ∧
      (t.cogs.rd n).ctra.running = (s.cogs.rd n).ctra.running ∧
      (t.cogs.rd n).ctrb.running = (s.cogs.rd n).ctrb.running ∧
      (t.cogs.rd n).video.inUse = (s.cogs.rd n).video.inUse ∧ (t.cogs.rd n).ptra = p ∧ (t.cogs.rd n).ptrb = a ∧
      (∀ k, (t.cogs.rd n).quads.rd k = 0#32) ∧ 0x1F8 ≤ (t.cogs.rd n).qbase.toNat ∧
      (t.cogs.rd n).qvalid = false ∧ (t.cogs.rd n).cogsel = 0#4 ∧ (t.cogs.rd n).task = 0#32 ∧
      (t.cogs.rd n).taskWrites = [] ∧ (t.cogs.rd n).rep.count = 0#32 ∧ (t.cogs.rd n).skip = 0#32 ∧
      (t.cogs.rd n).nops = 0#32 ∧
      ∀ k : TaskId, (t.cogs.rd n).tasks.rd k = ⟨false, false, k.setWidth 9, 0, []⟩
    let does := fun n : CogId => ∃ t, exec (.coginit o) s = .next t ∧ started n t ∧
      (n ≠ s.turn → ∃ u, Did (resultEffect o.z o.c o.r (addrOf s o.d) (n.setWidth 32)
        (decide (n = 0#3)) false) o.d o.s s u ∧ t = { u with cogs := u.cogs.wr n (t.cogs.rd n) })
    (s.cog.cogsel.toNat < 8 → does (BitVec.ofNat 3 s.cog.cogsel.toNat)) ∧
    (8 ≤ s.cog.cogsel.toNat → ∀ n, lowestIdle n → does n) ∧
    (8 ≤ s.cog.cogsel.toNat → (∀ n, isIdle (s.cogs.rd n) = false) →
      ∃ v z, Completes (.coginit o) o.d o.s
        (resultEffect o.z o.c o.r (addrOf s o.d) v z true) s)

/-- COGID writes the own number, COGSTOP makes a COG idle, CLKSET sets CLK or resets the chip. R245
to R247, R761. The refusal is U8 (notes/assumptions/34.md); that every COG is idle after the reset by
CLKSET is D37 (notes/assumptions/35.md); that COGSTOP stops a loading COG too is a choice
(notes/assumptions/33.md). -/
def Obligations.CogAndClockControl : Prop :=
  (∀ (o : D0Ops) (s : State), readyD false o.cond o.d s →
    Completes (.cogid o) o.d noReg { write := some (addrOf s o.d, s.turn.setWidth 32) } s) ∧
  (∀ (o : D0Ops) (s : State), readyD true o.cond o.d s →
    let n : CogId := BitVec.ofNat 3 (valueOf s o.d).toNat
    (∃ t, exec (.cogstop o) s = .next t ∧ (t.cogs.rd n).run = .idle ∧
      (∀ m, m ≠ n → m ≠ s.turn → t.cogs.rd m = s.cogs.rd m) ∧ t.locks = s.locks ∧ t.clk = s.clk ∧
      ∀ a, readByte t.mem a = readByte s.mem a) ∧
    (n ≠ s.turn → Completes (.cogstop o) o.d noReg
      { chip := fun u => { u with cogs := u.cogs.wr n { u.cogs.rd n with run := .idle } } } s)) ∧
  ∀ (o : D0Ops) (s : State), readyD true o.cond o.d s →
    let v := (valueOf s o.d).toNat % 2 ^ 9
    let source := v % 4
    let off := source = 2 ∧ v / 4 % 4 = 0 ∨ source = 3 ∧ (v / 4 % 4 = 0 ∨ v / 16 % 16 = 0)
    (v < 2 ^ 8 → ¬ off → Completes (.clkset o) o.d noReg
      { chip := fun u => { u with clk := BitVec.ofNat 9 v } } s) ∧
    (v < 2 ^ 8 → off → exec (.clkset o) s = .refused .clockSource) ∧
    (2 ^ 8 ≤ v → ∃ t, exec (.clkset o) s = .next t ∧ t.clk = 0#9 ∧
      (∀ n, isIdle (t.cogs.rd n) = true) ∧ Memory.wf t.mem = true)

/-- LOCKNEW takes the lowest free lock, LOCKRET returns one, LOCKSET and LOCKCLR set and clear it
and tell its old state. R248 to R251; NextFreeLock is the lowest (D11, notes/assumptions/31.md), and Z of
LOCKNEW, "number is zero", is D19 (notes/assumptions/17.md), choices. -/
def Obligations.LockInstructionResults : Prop :=
  let put := fun (k : BitVec 3) (l : Lock) (u : State) => { u with locks := u.locks.wr k l }
  (∀ (o : DZCOps) (s : State), readyD false o.cond o.d s →
    (∀ k : BitVec 3, (s.locks.rd k).taken = false →
      (∀ m : BitVec 3, m.toNat < k.toNat → (s.locks.rd m).taken = true) →
      Completes (.locknew o) o.d noReg
        { resultEffect o.z o.c true (addrOf s o.d) (k.setWidth 32) (decide (k = 0#3)) false with
          chip := put k ⟨(s.locks.rd k).state, true⟩ } s) ∧
    ((∀ k, (s.locks.rd k).taken = true) →
      ∃ v z, Completes (.locknew o) o.d noReg
        (resultEffect o.z o.c true (addrOf s o.d) v z true) s)) ∧
  (∀ (o : D0Ops) (s : State), readyD true o.cond o.d s →
    let k : BitVec 3 := BitVec.ofNat 3 (valueOf s o.d).toNat
    Completes (.lockret o) o.d noReg { chip := put k ⟨(s.locks.rd k).state, false⟩ } s) ∧
  ∀ (o : DCOps) (s : State), readyD true o.cond o.d s →
    let k : BitVec 3 := BitVec.ofNat 3 (valueOf s o.d).toNat
    let old := if o.c then some (s.locks.rd k).state else none
    Completes (.lockset o) o.d noReg { c := old, chip := put k ⟨true, (s.locks.rd k).taken⟩ } s ∧
    Completes (.lockclr o) o.d noReg { c := old, chip := put k ⟨false, (s.locks.rd k).taken⟩ } s

/-- SETINDx and FIXINDx set the INDA and INDB pointers and limits, whatever the flags are. R280 and R282 to
R290; SETINDA with a delta (R281) is in IndirectPointersStayInTheirRange. -/
def Obligations.IndirectPointerSetup : Prop :=
  let whole := fun p : RegAddr => (⟨p, 0#9, 511#9⟩ : IndPtr)
  let moved := fun (p : IndPtr) (n : RegAddr) =>
    whole (BitVec.ofInt 9 ((p.ptr.toNat : Int) + n.toInt))
  let fixed := fun o : FixOps => (⟨o.initial,
    BitVec.ofNat 9 (min o.initial.toNat o.terminal.toNat),
    BitVec.ofNat 9 (max o.initial.toNat o.terminal.toNat)⟩ : IndPtr)
  let one := fun (mk : IndOneOps → Instr) (f : RegAddr → Cog → Cog) =>
    ∀ o s, Completes (mk o) noReg noReg { cog := f o.n } s
  let two := fun (mk : IndTwoOps → Instr) (f : IndTwoOps → Cog → Cog) =>
    ∀ o s, Completes (mk o) noReg noReg { cog := f o } s
  let fix := fun (mk : FixOps → Instr) (f : IndPtr → Cog → Cog) =>
    ∀ o s, Completes (mk o) noReg noReg { cog := f (fixed o) } s
  one .setindaAddr (fun n c => { c with inda := whole n }) ∧
  one .setindbAddr (fun n c => { c with indb := whole n }) ∧
  one .setindbDelta (fun n c => { c with indb := moved c.indb n }) ∧
  two .setindsAddrAddr (fun o c => { c with inda := whole o.a, indb := whole o.b }) ∧
  two .setindsAddrDelta (fun o c => { c with inda := moved c.inda o.a, indb := whole o.b }) ∧
  two .setindsDeltaAddr (fun o c => { c with inda := whole o.a, indb := moved c.indb o.b }) ∧
  two .setindsDeltaDelta (fun o c =>
    { c with inda := moved c.inda o.a, indb := moved c.indb o.b }) ∧
  fix .fixinda (fun p c => { c with inda := p }) ∧
  fix .fixindb (fun p c => { c with indb := p }) ∧
  fix .fixinds (fun p c => { c with inda := p, indb := p })

/-- A reference keeps an INDx pointer between its limits, wraps at them, and ++INDx uses the stepped
address; SETINDA with a delta moves the pointer without regard to its limits. R271 to R274 name the steps; that
they wrap at the limits, by a test for equality with the limit alone, is D15, a choice
(notes/assumptions/22.md). That the old limits play no part in R281 is the spec's own inference. -/
def Obligations.IndirectPointersStayInTheirRange : Prop :=
  (∀ (o : IndOneOps) (s : State), Completes (.setindaDelta o) noReg noReg
    { cog := fun c => { c with inda :=
      ⟨BitVec.ofInt 9 ((c.inda.ptr.toNat : Int) + o.n.toInt), 0#9, 511#9⟩ } } s) ∧
  ∀ (p : IndPtr) (m : BitVec 2), p.bot.toNat ≤ p.ptr.toNat → p.ptr.toNat ≤ p.top.toNat →
    let up := if p.ptr = p.top then p.bot.toNat else p.ptr.toNat + 1
    let down := if p.ptr = p.bot then p.top.toNat else p.ptr.toNat - 1
    (indAfter p m).bot = p.bot ∧ (indAfter p m).top = p.top ∧
    p.bot.toNat ≤ (indAfter p m).ptr.toNat ∧ (indAfter p m).ptr.toNat ≤ p.top.toNat ∧
    p.bot.toNat ≤ (indAddr p m).toNat ∧ (indAddr p m).toNat ≤ p.top.toNat ∧
    (indAfter p m).ptr.toNat =
      (if m = 0#2 then p.ptr.toNat else if m = 2#2 then down else up) ∧
    (indAddr p m).toNat = (if m = 3#2 then up else p.ptr.toNat)

/-- SETSPx, ADDSPx, SUBSPx, CHKSPx and GETSPx set, move, test and read SPA and SPB modulo 256. R300
to R311. An immediate is the low 8 bits of the field (R129). -/
def Obligations.StackPointerInstructionResults : Prop :=
  let low := fun v : Word => BitVec.ofNat 8 v.toNat
  let flags := fun (z c : Bool) (zf cf : Bool) => resultEffect z c false 0#9 0#32 zf cf
  let check := fun (mk : NoDOps → Instr) (zf cf : Cog → Bool) =>
    PlainDoes mk (·.cond) fun (o : NoDOps) s => flags o.z o.c (zf s.cog) (cf s.cog)
  let get := fun (mk : DZCOps → Instr) (v : Cog → Nat) (zf cf : Cog → Bool) =>
    ∀ (o : DZCOps) (s : State), readyD false o.cond o.d s →
      Completes (mk o) o.d noReg
        (resultEffect o.z o.c true (addrOf s o.d) (BitVec.ofNat 32 (v s.cog)) (zf s.cog)
          (cf s.cog)) s
  let zeroA := fun c : Cog => decide (c.spa.toNat = 0)
  let highA := fun c : Cog => decide (128 ≤ c.spa.toNat)
  let zeroB := fun c : Cog => decide (c.spb.toNat = 0)
  let highB := fun c : Cog => decide (128 ≤ c.spb.toNat)
  let same := fun c : Cog => decide (c.spa = c.spb)
  let less := fun c : Cog => decide (c.spa.toNat < c.spb.toNat)
  DnSets .setspa 8 (fun v c => { c with spa := low v }) ∧
  DnSets .setspb 8 (fun v c => { c with spb := low v }) ∧
  DnSets .addspa 8 (fun v c => { c with spa := c.spa + low v }) ∧
  DnSets .addspb 8 (fun v c => { c with spb := c.spb + low v }) ∧
  DnSets .subspa 8 (fun v c => { c with spa := c.spa - low v }) ∧
  DnSets .subspb 8 (fun v c => { c with spb := c.spb - low v }) ∧
  check .chkspd same less ∧ check .chkspa zeroA highA ∧ check .chkspb zeroB highB ∧
  get .getspd (fun c => (c.spa.toNat + (256 - c.spb.toNat)) % 256) same less ∧
  get .getspa (fun c => c.spa.toNat) zeroA highA ∧
  get .getspb (fun c => c.spb.toNat) zeroB highB

/-- PUSHx and PUSHxR store their operand in stack RAM, POPx and POPxR load D from it. R312 to R323. That Z
is "value is zero" and C its bit 31 is D19 (notes/assumptions/17.md). Once a SETVID or WAITVID has
executed, a read of stack RAM is a draw (R100; notes/assumptions/57.md). -/
def Obligations.PushAndPopResults : Prop :=
  let pop := fun (mk : DZCOps → Instr) (sp : Cog → BitVec 8) (at_ : BitVec 8 → BitVec 8)
      (f : Cog → Cog) =>
    ∀ (o : DZCOps) (s : State), readyD false o.cond o.d s →
      let v := if s.cog.video.inUse then s.inputs.stkDraw else s.cog.stk.rd (at_ (sp s.cog))
      Completes (mk o) o.d noReg
        { resultEffect o.z o.c true (addrOf s o.d) v (decide (v = 0#32)) (v.getLsbD 31) with
          cog := f } s
  DnSets .pusha 9 (fun v c => { c with stk := c.stk.wr c.spa v, spa := c.spa + 1#8 }) ∧
  DnSets .pushb 9 (fun v c => { c with stk := c.stk.wr c.spb v, spb := c.spb + 1#8 }) ∧
  DnSets .pushar 9 (fun v c => { c with stk := c.stk.wr (c.spa - 1#8) v, spa := c.spa - 1#8 }) ∧
  DnSets .pushbr 9 (fun v c => { c with stk := c.stk.wr (c.spb - 1#8) v, spb := c.spb - 1#8 }) ∧
  pop .popa (·.spa) (· - 1#8) (fun c => { c with spa := c.spa - 1#8 }) ∧
  pop .popb (·.spb) (· - 1#8) (fun c => { c with spb := c.spb - 1#8 }) ∧
  pop .popar (·.spa) (fun p => p) (fun c => { c with spa := c.spa + 1#8 }) ∧
  pop .popbr (·.spb) (fun p => p) (fun c => { c with spb := c.spb + 1#8 })

/-- CALLx push flags and return address and branch; RETx pop them, restore the flags asked for, and
branch back. R330 to R337 with the frame of R341; the return address of the delayed calls is
CallDReturnOffset of D14 and that of the normal ones is D13 (notes/assumptions/37.md). Once a SETVID or
WAITVID has executed, a read of stack RAM is a draw (R100; notes/assumptions/57.md). -/
def Obligations.StackCallAndReturnResults : Prop :=
  let frame := fun (s : State) (n : Nat) =>
    BitVec.ofNat 32 ((if s.cog.flagZ then 2 ^ 10 else 0) + (if s.cog.flagC then 2 ^ 9 else 0) +
      (s.cog.pcNow.toNat + n) % 2 ^ 9)
  let call := fun (mk : DnOps → Instr) (delayed : Bool) (n : Nat) (push : Word → Cog → Cog) =>
    DnDoes mk 9 fun s v =>
      { branch := some (delayed, BitVec.ofNat 9 v.toNat), cog := push (frame s n) }
  let pushA := fun (v : Word) (c : Cog) =>
    { c with stk := c.stk.wr c.spa v, spa := c.spa + 1#8 }
  let pushB := fun (v : Word) (c : Cog) =>
    { c with stk := c.stk.wr c.spb v, spb := c.spb + 1#8 }
  let ret := fun (mk : NoDOps → Instr) (delayed : Bool) (sp : Cog → BitVec 8) (f : Cog → Cog) =>
    PlainDoes mk (·.cond) fun (o : NoDOps) s =>
      let v := if s.cog.video.inUse then s.inputs.stkDraw else s.cog.stk.rd (sp s.cog - 1#8)
      { resultEffect o.z o.c false 0#9 0#32 (v.getLsbD 10) (v.getLsbD 9) with
        branch := some (delayed, BitVec.ofNat 9 v.toNat), cog := f }
  call .calla false 1 pushA ∧ call .callb false 1 pushB ∧
  call .callad true 4 pushA ∧ call .callbd true 4 pushB ∧
  ret .reta false (·.spa) (fun c => { c with spa := c.spa - 1#8 }) ∧
  ret .retb false (·.spb) (fun c => { c with spb := c.spb - 1#8 }) ∧
  ret .retad true (·.spa) (fun c => { c with spa := c.spa - 1#8 }) ∧
  ret .retbd true (·.spb) (fun c => { c with spb := c.spb - 1#8 })

/-- RETA WZ WC right after a CALLA comes back behind the call with flags, SPA and pointers as before
it. R330, R334 together; the called code is taken to have left SPx and the frame alone. That the return
address is the one behind the call is D13, a choice (notes/assumptions/37.md). R100 says this only of a
video generator that is not in use, hence the hypothesis: otherwise the pop is a draw
(notes/assumptions/57.md). -/
def Obligations.ReturnUndoesCall : Prop :=
  ∀ (o : DnOps) (s : State), readyDn o.cond o.d s → s.cog.video.inUse = false →
    (∃ t u, exec (.calla o) s = .next t ∧ exec (.reta ⟨true, true, 15#4⟩) t = .next u ∧
      u.cog.pcNow = s.cog.pcNow + 1#9 ∧ u.cog.flagZ = s.cog.flagZ ∧ u.cog.flagC = s.cog.flagC ∧
      u.cog.spa = s.cog.spa ∧ u.cog.spb = s.cog.spb ∧ u.cog.ram = s.cog.ram) ∧
    (∃ t u, exec (.callb o) s = .next t ∧ exec (.retb ⟨true, true, 15#4⟩) t = .next u ∧
      u.cog.pcNow = s.cog.pcNow + 1#9 ∧ u.cog.flagZ = s.cog.flagZ ∧ u.cog.flagC = s.cog.flagC ∧
      u.cog.spa = s.cog.spa ∧ u.cog.spb = s.cog.spb ∧ u.cog.ram = s.cog.ram)

/-- TASK chooses the task and rotates each cycle; SETTASK queues a value that the fourth cycle after
it goes by. R361, R362; the delay is D17, a choice of the spec (notes/assumptions/36.md). -/
def Obligations.TaskSlotsRotateAndSettaskIsLate : Prop :=
  (∀ (o : DnOps) (s : State), readyDn o.cond o.d s →
    let v := numberOf 8 s o.d
    let new := match o.d with
      | .reg _ => v
      | .imm _ => BitVec.ofNat 32 (v.toNat * (2 ^ 24 + 2 ^ 16 + 2 ^ 8 + 1))
    Completes (.settask o) (dimmReg o.d) noReg
      { cog := fun c => { c with taskWrites := c.taskWrites ++ [⟨new, 3⟩] } } s) ∧
  (∀ c : Cog, c.taskWrites = [] →
    (beginSlot c).cur = BitVec.ofNat 2 (c.task.toNat % 4) ∧
    (beginSlot c).task = c.task.rotateRight 2 ∧ (beginSlot^[16] c).task = c.task) ∧
  ∀ (c : Cog) (v : Word),
    let c0 := { c with taskWrites := [⟨v, 3⟩] }
    (beginSlot c0).cur = BitVec.ofNat 2 c.task.toNat ∧
    (beginSlot^[2] c0).cur = BitVec.ofNat 2 (c.task.toNat / 4) ∧
    (beginSlot^[3] c0).cur = BitVec.ofNat 2 (c.task.toNat / 16) ∧
    (beginSlot^[4] c0).cur = BitVec.ofNat 2 v.toNat ∧
    (beginSlot^[4] c0).task = v.rotateRight 2

/-- JMPTASK gives every task of its mask the new PC as a normal branch and leaves the others. R363,
R560. That each of them loses three slots and its pending delayed branches, the tasks that do not execute
too, is D17, a choice (notes/assumptions/36.md). -/
def Obligations.JmptaskForcesTheSelectedTasks : Prop :=
  ∀ (o : DnMaskOps) (s : State), readyDn o.cond o.d s →
    let target : RegAddr := BitVec.ofNat 9 (numberOf 9 s o.d).toNat
    ∃ t, exec (.jmptask o) s = .next t ∧
      (∀ k : TaskId, o.mask.getLsbD k.toNat = true →
        t.cog.tasks.rd k =
          { s.cog.tasks.rd k with pc := target, flush := 3, delayed := [] }) ∧
      (∀ k : TaskId, o.mask.getLsbD k.toNat = false →
        t.cog.tasks.rd k =
          if k = s.cog.cur then { s.cog.tasks.rd k with pc := (nextPc s.cog).1 }
          else s.cog.tasks.rd k) ∧
      ∃ u, Did {} (dimmReg o.d) noReg s u ∧
        t = u.setCog { u.cog with tasks := t.cog.tasks }

/-- JMPRET, JMPRETD and their aliases write the return address into D and branch to S. R563 to R567;
the offset of the delayed form is D14, that of the normal one D13 (notes/assumptions/37.md). That only
bits 8:0 of D are written, that D counts as read where WZ or WR is given, is the P8X32A's, PRESUMED
(notes/assumptions/54.md); the words of the aliases are G3 (notes/assumptions/19.md). -/
def Obligations.JumpAndReturnAddressResults : Prop :=
  let link := fun (s : State) (n : Nat) (d : Word) =>
    BitVec.ofNat 32 (d.toNat / 2 ^ 9 * 2 ^ 9 + (s.cog.pcNow.toNat + n) % 2 ^ 9)
  let low := fun v : Word => BitVec.ofNat 9 v.toNat
  let jmpret := fun (mk : AluZOps → Instr) (delayed : Bool) (n : Nat) =>
    ∀ (o : AluZOps) (s : State), readyDS (o.z || o.r) o.cond o.d o.s s →
      let v := link s n (valueOf s o.d)
      Completes (mk o) o.d (srcReg o.s)
        { resultEffect o.z false o.r (addrOf s o.d) v (decide (v = 0#32)) false with
          branch := some (delayed, low (sourceOf s o.s)) } s
  let jmp := fun (mk : JumpOps → Instr) (delayed : Bool) =>
    ∀ (o : JumpOps) (s : State), readyDS false o.cond noReg o.s s →
      Completes (mk o) noReg (srcReg o.s) { branch := some (delayed, low (sourceOf s o.s)) } s
  let call := fun (mk : CallOps → Instr) (delayed : Bool) (n : Nat) =>
    ∀ (o : CallOps) (s : State), readyD true o.cond o.d s →
      Completes (mk o) o.d noReg
        { write := some (addrOf s o.d, link s n (valueOf s o.d))
          branch := some (delayed, o.target) } s
  jmpret .jmpret false 1 ∧ jmpret .jmpretd true 4 ∧ jmp .jmp false ∧ jmp .jmpd true ∧
  call .call false 1 ∧ call .calld true 4 ∧
  PlainDoes .ret (·.cond) (fun _ _ => { branch := some (false, 0#9) }) ∧
  PlainDoes .retd (·.cond) (fun _ _ => { branch := some (true, 0#9) }) ∧
  ∀ s, Completes .nop noReg noReg {} s

/-- IJxx and DJxx step D and branch by the new value, TJxx by D; JP, JNP and PASSCNT by what the
environment answers. R570 to R585 in the form of R568, R370. That IJxx and DJxx test the value after the step
is the inference of R568 with G7, general knowledge (notes/assumptions/69.md). The tests of JP, JNP and
PASSCNT are free inputs (notes/assumptions/43.md). -/
def Obligations.TestedBranchResults : Prop :=
  let does := fun (mk : DSROps → Instr) (step : Int) (onZero delayed : Bool) =>
    ∀ (o : DSROps) (s : State), readyDS true o.cond o.d o.s s →
      let v := BitVec.ofInt 32 ((valueOf s o.d).toNat + step)
      Completes (mk o) o.d (srcReg o.s)
        { write := if o.r then some (addrOf s o.d, v) else none
          branch := if decide (v = 0#32) = onZero then
            some (delayed, BitVec.ofNat 9 (sourceOf s o.s).toNat) else none } s
  let jump := fun (b delayed : Bool) (s : Word) =>
    ({ branch := if b then some (delayed, BitVec.ofNat 9 s.toNat) else none } : Effect)
  does .ijz 1 true false ∧ does .ijzd 1 true true ∧
  does .ijnz 1 false false ∧ does .ijnzd 1 false true ∧
  does .djz (-1) true false ∧ does .djzd (-1) true true ∧
  does .djnz (-1) false false ∧ does .djnzd (-1) false true ∧
  DsDoes .tjz (fun _ d s => jump (decide (d = 0#32)) false s) ∧
  DsDoes .tjzd (fun _ d s => jump (decide (d = 0#32)) true s) ∧
  DsDoes .tjnz (fun _ d s => jump (decide (d ≠ 0#32)) false s) ∧
  DsDoes .tjnzd (fun _ d s => jump (decide (d ≠ 0#32)) true s) ∧
  DsDoes .jp (fun st _ s => jump st.inputs.pinsSay false s) ∧
  DsDoes .jnp (fun st _ s => jump (!st.inputs.pinsSay) false s) ∧
  ∀ (o : D0Ops) (s : State), readyD true o.cond o.d s →
    Completes (.passcnt o) o.d noReg
      { branch := if s.inputs.timePassed then none else some (false, s.cog.pcNow) } s

/-- Each waiting instruction has its effect once what it waits for is there, and SNDSER and RCVSER with
WC never wait. R595 to R598, R633, R634, R659, R686, R706. The operands are those of its first try, which
the COG holds while it waits (R130; notes/assumptions/52.md). WAITCNT is done when its half of CNT equals D
(R596, R791); WaitsStallOtherwise says that no such clock passes by. The port of the pin waits is WaitPort
at its default, D43 (notes/assumptions/56.md); that D is the state and S the mask is G7, general knowledge
(R597, notes/assumptions/70.md). A failed RCVSER WC leaves D and Z by D45 (notes/assumptions/55.md),
Z is D19 (notes/assumptions/17.md), a counter wraps only while it runs (notes/assumptions/47.md). That
SNDSER keeps the long it sends is notes/assumptions/48.md; that WAITVID keeps the pair it hands over and
puts the video generator into use for good is notes/assumptions/48.md and 57.md. -/
def Obligations.WaitsCompleteWhenTheyMay : Prop :=
  let pins := fun s : State => portWindow s.inputs.pinIn (s.cog.por.rd 0#2)
  let d := fun (s : State) (v : Word) => (s.cog.held.map (·.d)).getD v
  let x := fun (s : State) (v : Word) => (s.cog.held.map (·.s)).getD v
  (∀ (o : WaitCOps) (s : State), readyDS true o.cond o.d o.s s →
    (if o.high then s.cnt.toNat / 2 ^ 32 else s.cnt.toNat % 2 ^ 32) = (d s (valueOf s o.d)).toNat →
    Completes (.waitcnt o) o.d (srcReg o.s)
      { write := if o.r then
          some (addrOf s o.d, d s (valueOf s o.d) + x s (sourceOf s o.s)) else none } s) ∧
  (∀ (o : DSOps) (s : State), readyDS true o.cond o.d o.s s →
    (pins s &&& x s (sourceOf s o.s) = d s (valueOf s o.d) →
      Completes (.waitpeq o) o.d (srcReg o.s) {} s) ∧
    (pins s &&& x s (sourceOf s o.s) ≠ d s (valueOf s o.d) →
      Completes (.waitpne o) o.d (srcReg o.s) {} s) ∧
    (s.inputs.vidReady = true → Completes (.waitvid o) o.d (srcReg o.s)
      { cog := fun c =>
          { c with video :=
            { c.video with
              handD := d s (valueOf s o.d), handS := x s (sourceOf s o.s), inUse := true } } } s)) ∧
  (∀ (o : DCOps) (s : State), readyD true o.cond o.d s →
    (s.inputs.serTxReady = true → Completes (.sndser o) o.d noReg
      { c := if o.c then some true else none
        cog := fun c => { c with serTx := d s (valueOf s o.d) } } s) ∧
    (s.inputs.serTxReady = false → o.c = true →
      Completes (.sndser o) o.d noReg { c := some false } s)) ∧
  (∀ (o : DZCOps) (s : State), readyD false o.cond o.d s →
    (s.inputs.serRxReady = true → Completes (.rcvser o) o.d noReg
      (resultEffect o.z o.c true (addrOf s o.d) s.inputs.serRxLong
        (decide (s.inputs.serRxLong = 0#32)) true) s) ∧
    (s.inputs.serRxReady = false → o.c = true →
      Completes (.rcvser o) o.d noReg { c := some false } s)) ∧
  ∀ (o : IgnOps) (s : State), readyPlain o.cond s →
    (s.cog.ctra.running = true → s.inputs.wrapa = true →
      Completes (.synctra o) noReg noReg {} s) ∧
    (s.cog.ctrb.running = true → s.inputs.wrapb = true →
      Completes (.synctrb o) noReg noReg {} s)

/-- A waiting instruction whose event is not there leaves everything as it is, marks the COG as stalled
and holds the operands of its first try; time never passes the end of a WAITCNT, whose COG steps then.
R595, R130: the wait is tried again with them in a later step, which is the model's way
(notes/assumptions/52.md). R596, R791: equality is tested every clock, so that time passes
(notes/assumptions/8.md) only up to it. The port of the pin waits is WaitPort at its default, D43
(notes/assumptions/56.md), and that D is the state and S the mask is G7 (R597, notes/assumptions/70.md). -/
def Obligations.WaitsStallOtherwise : Prop :=
  let stalls := fun (i : Instr) (s : State) (h : Option Held) =>
    exec i s = .next (s.setCog { s.cog with stalled := true, held := h })
  let pins := fun s : State => portWindow s.inputs.pinIn (s.cog.por.rd 0#2)
  let first := fun (s : State) (dv sv : Word) (half : Option Bool) => s.cog.held.getD ⟨dv, sv, half⟩
  let half := fun (high : Bool) (n : Nat) =>
    if high then n % 2 ^ 64 / 2 ^ 32 else n % 2 ^ 32
  let awaits := fun (c : Cog) (high : Bool) (v : Word) =>
    c.run = .running ∧ ∃ x, c.held = some ⟨v, x, some high⟩
  let ended := fun (s : State) (n : CogId) =>
    ∃ high v, awaits (s.cogs.rd n) high v ∧ half high s.cnt.toNat = v.toNat
  (∀ (o : WaitCOps) (s : State), readyDS true o.cond o.d o.s s →
    let h := first s (valueOf s o.d) (sourceOf s o.s) (some o.high)
    half o.high s.cnt.toNat ≠ h.d.toNat → stalls (.waitcnt o) s (some h)) ∧
  (∀ (o : DSOps) (s : State), readyDS true o.cond o.d o.s s →
    let h := first s (valueOf s o.d) (sourceOf s o.s) none
    (pins s &&& h.s ≠ h.d → stalls (.waitpeq o) s (some h)) ∧
    (pins s &&& h.s = h.d → stalls (.waitpne o) s (some h)) ∧
    (s.inputs.vidReady = false → stalls (.waitvid o) s (some h))) ∧
  (∀ (o : DCOps) (s : State), readyD true o.cond o.d s → s.inputs.serTxReady = false →
    o.c = false → stalls (.sndser o) s (some (first s (valueOf s o.d) 0#32 none))) ∧
  (∀ (o : DZCOps) (s : State), readyD false o.cond o.d s → s.inputs.serRxReady = false →
    o.c = false → stalls (.rcvser o) s s.cog.held) ∧
  (∀ (o : IgnOps) (s : State), readyPlain o.cond s →
    ((s.cog.ctra.running && s.inputs.wrapa) = false → stalls (.synctra o) s s.cog.held) ∧
    ((s.cog.ctrb.running && s.inputs.wrapb) = false → stalls (.synctrb o) s s.cog.held)) ∧
  (∀ s t : State, s.cog.run = .running → s.cog.nops = 0#32 → cycle s = .next t →
    t.cog.stalled = true →
    ∃ u, step s = .next u ∧ (u.cnt = s.cnt + 1#64 ∨ (u.cnt = s.cnt ∧ ∃ n, ended u n)) ∧
      u.mem = s.mem ∧ u.locks = s.locks ∧
      u.clk = s.clk ∧ u.pinCfg = s.pinCfg ∧ u.tick = s.tick + 1 ∧
      u.cogs.rd s.turn = { s.cog with stalled := true, held := t.cog.held } ∧
      ∀ n, n ≠ s.turn → u.cogs.rd n = s.cogs.rd n) ∧
  ∀ (clocks : BitVec 64) (s : State),
    let t := passTime clocks s
    ∃ k ≤ clocks.toNat, t.cnt = s.cnt + BitVec.ofNat 64 k ∧ t.cogs = s.cogs ∧
      (∀ n high v, awaits (s.cogs.rd n) high v →
        ∀ j < k, half high (s.cnt.toNat + j) ≠ v.toNat) ∧
      ((∃ n, ended t n) → ended t t.turn)

/-- The pin instructions change one latch or direction bit or read one pin; the port instructions
select and configure. R611 to R615, R619 to R629, R650, R651. That SETPORx and SETPORT take the low two
bits of the operand is D39, a choice (notes/assumptions/45.md). -/
def Obligations.PinAndPortInstructionResults : Prop :=
  let put := fun (x : BitVec 128) (p : Nat) (b : Bool) =>
    (BitVec.ofFnLE fun i : Fin 128 => if i.val = p then b else x.getLsbD i : BitVec 128)
  let pin := fun v : Word => v.toNat % 128
  let out := fun (mk : DnOps → Instr) (f : State → Bool → Bool) =>
    DnDoes mk 7 fun s v =>
      { cog := fun c => { c with out := put c.out (pin v) (f s (c.out.getLsbD (pin v))) } }
  let por := fun (k : BitVec 2) (v : Word) (c : Cog) =>
    { c with por := c.por.wr k (BitVec.ofNat 2 v.toNat) }
  DnSets .offp 7 (fun v c => { c with dir := put c.dir (pin v) (!c.dir.getLsbD (pin v)) }) ∧
  out .notp (fun _ b => !b) ∧ out .clrp (fun _ _ => false) ∧ out .setp (fun _ _ => true) ∧
  out .setpc (fun s _ => s.cog.flagC) ∧ out .setpnc (fun s _ => !s.cog.flagC) ∧
  out .setpz (fun s _ => s.cog.flagZ) ∧ out .setpnz (fun s _ => !s.cog.flagZ) ∧
  (∀ (o : DnZCOps) (s : State), readyDn o.cond o.d s →
    let level := s.inputs.pinIn.getLsbD (pin (numberOf 7 s o.d))
    Completes (.getp o) (dimmReg o.d) noReg
      (resultEffect o.z o.c false 0#9 0#32 (!level) level) s ∧
    Completes (.getpn o) (dimmReg o.d) noReg
      (resultEffect o.z o.c false 0#9 0#32 level (!level)) s) ∧
  DnSets .setpora 2 (por 0#2) ∧ DnSets .setporb 2 (por 1#2) ∧ DnSets .setporc 2 (por 2#2) ∧
  DnSets .setpord 2 (por 3#2) ∧
  DnSets .setport 2 (fun v c => { c with portsel := BitVec.ofNat 2 v.toNat }) ∧
  ∀ (o : DSOps) (s : State), readyDS true o.cond o.d o.s s →
    ∃ cfg : Bank 7 (BitVec 13),
      Completes (.cfgpins o) o.d (srcReg o.s) { chip := fun u => { u with pinCfg := cfg } } s ∧
      ∀ p : BitVec 7, cfg.rd p =
        if p.toNat / 32 = s.cog.portsel.toNat ∧ (valueOf s o.d).getLsbD (p.toNat % 32) = true
        then BitVec.ofNat 13 (sourceOf s o.s).toNat else s.pinCfg.rd p

/-- The serial, exchange, video, texture and DAC instructions store their operand in their own
register. The device-write scheme of R610 for the registers of R42 to R46; a register is an
opaque value (U20, notes/assumptions/48.md). That DAC k takes bits 2k+1:2k of CFGDACS is D47, a choice
(R669, notes/assumptions/65.md). That a SETVID puts the video generator into use for good is
the model's choice (R100; notes/assumptions/57.md). -/
def Obligations.DeviceRegisterWrites : Prop :=
  let video := fun (f : Word → Video → Video) (v : Word) (c : Cog) =>
    { c with video := f v c.video }
  let pixel := fun (f : Word → Pixel → Pixel) (v : Word) (c : Cog) =>
    { c with pixel := f v c.pixel }
  let two := fun (v : Word) (k : Nat) => (BitVec.ofNat 2 (v.toNat / 4 ^ k) : BitVec 2)
  let level := fun v : Word => (BitVec.ofNat 18 (v.toNat / 2 ^ 14) : BitVec 18)
  let cfg := fun (k : BitVec 2) (v : Word) (c : Cog) =>
    { c with cfgdac := c.cfgdac.wr k (two v 0) }
  let dac := fun (k : BitVec 2) (v : Word) (c : Cog) =>
    { c with dacval := c.dacval.wr k (level v) }
  DnSets .setser 6 (fun v c => { c with ser := v }) ∧
  DnSets .setxch 9 (fun v c => { c with xch := v }) ∧
  DnSets .setvid 9 (video fun v r => { r with vid := v, inUse := true }) ∧
  DnSets .setvidy 9 (video fun v r => { r with vidy := v }) ∧
  DnSets .setvidi 9 (video fun v r => { r with vidi := v }) ∧
  DnSets .setvidq 9 (video fun v r => { r with vidq := v }) ∧
  DnSets .setpix 9 (pixel fun v r => { r with pix := v }) ∧
  DnSets .setpixu 9 (pixel fun v r => { r with pixu := v }) ∧
  DnSets .setpixv 9 (pixel fun v r => { r with pixv := v }) ∧
  DnSets .setpixz 9 (pixel fun v r => { r with pixz := v }) ∧
  DnSets .setpixr 9 (pixel fun v r => { r with pixr := v }) ∧
  DnSets .setpixg 9 (pixel fun v r => { r with pixg := v }) ∧
  DnSets .setpixb 9 (pixel fun v r => { r with pixb := v }) ∧
  DnSets .setpixa 9 (pixel fun v r => { r with pixa := v }) ∧
  DnSets .cfgdac0 2 (cfg 0#2) ∧ DnSets .cfgdac1 2 (cfg 1#2) ∧
  DnSets .cfgdac2 2 (cfg 2#2) ∧ DnSets .cfgdac3 2 (cfg 3#2) ∧
  DnSets .cfgdacs 8 (fun v c => { c with cfgdac := #v[two v 0, two v 1, two v 2, two v 3] }) ∧
  DnSets .setdac0 9 (dac 0#2) ∧ DnSets .setdac1 9 (dac 1#2) ∧
  DnSets .setdac2 9 (dac 2#2) ∧ DnSets .setdac3 9 (dac 3#2) ∧
  DnSets .setdacs 9 (fun v c =>
    { c with dacval := #v[level v, level v, level v, level v] })

/-- The counter instructions set mode, wave, frequency and phase of CTRA or CTRB. R680 to R687, R700
to R707; a register is an opaque value (U20, notes/assumptions/48.md), the phase after CAPCTRx is a free
value (U21, notes/assumptions/47.md). -/
def Obligations.CounterModuleWrites : Prop :=
  let a := fun (f : Word → Counter → Counter) (v : Word) (c : Cog) => { c with ctra := f v c.ctra }
  let b := fun (f : Word → Counter → Counter) (v : Word) (c : Cog) => { c with ctrb := f v c.ctrb }
  let mode := fun (v : Word) (r : Counter) => { r with mode := v, running := true }
  let wave := fun (v : Word) (r : Counter) => { r with wave := v }
  let frq := fun (v : Word) (r : Counter) => { r with frq := v }
  let phs := fun (v : Word) (r : Counter) => { r with phs := v }
  let add := fun (v : Word) (r : Counter) =>
    { r with phs := BitVec.ofNat 32 (r.phs.toNat + v.toNat) }
  let sub := fun (v : Word) (r : Counter) =>
    { r with phs := BitVec.ofInt 32 ((r.phs.toNat : Int) - v.toNat) }
  DnSets .setctra 9 (a mode) ∧ DnSets .setctrb 9 (b mode) ∧
  DnSets .setwava 9 (a wave) ∧ DnSets .setwavb 9 (b wave) ∧
  DnSets .setfrqa 9 (a frq) ∧ DnSets .setfrqb 9 (b frq) ∧
  DnSets .setphsa 9 (a phs) ∧ DnSets .setphsb 9 (b phs) ∧
  DnSets .addphsa 9 (a add) ∧ DnSets .addphsb 9 (b add) ∧
  DnSets .subphsa 9 (a sub) ∧ DnSets .subphsb 9 (b sub) ∧
  ∀ (o : IgnOps) (s : State), readyPlain o.cond s →
    (∃ v, Completes (.capctra o) noReg noReg { cog := a phs v } s) ∧
    (∃ v, Completes (.capctrb o) noReg noReg { cog := b phs v } s)

/-- GETPHSx, GETPHZx, GETCOSx, GETSINx, GETPIX and POLxxx deliver what the device shows. R690 to
R697, R670, R370; the values of running devices are free inputs (notes/assumptions/7.md). What POLxxx
tell is the model's reading of names without an encoding (notes/assumptions/42.md), what a running
counter shows and that GETPHZx zeroes its register is notes/assumptions/47.md, Z is D19
(notes/assumptions/17.md). -/
def Obligations.DeviceReads : Prop :=
  let pa := fun s : State => if s.cog.ctra.running then s.inputs.phsa else s.cog.ctra.phs
  let pb := fun s : State => if s.cog.ctrb.running then s.inputs.phsb else s.cog.ctrb.phs
  let poll := fun (mk : PollOps → Instr) (b : State → Bool) =>
    PlainDoes mk (·.cond) fun (o : PollOps) s => { c := if o.c then some (b s) else none }
  DzrDoes .getphsa false (fun s _ => pa s) ∧
  DzrDoes .getphsb false (fun s _ => pb s) ∧
  DzrDoes .getphza false (fun s _ => pa s)
    (fun _ c => { c with ctra := { c.ctra with phs := 0#32 } }) ∧
  DzrDoes .getphzb false (fun s _ => pb s)
    (fun _ c => { c with ctrb := { c.ctrb with phs := 0#32 } }) ∧
  DzrDoes .getcosa false (fun s _ => s.inputs.cosa) ∧
  DzrDoes .getsina false (fun s _ => s.inputs.sina) ∧
  DzrDoes .getcosb false (fun s _ => s.inputs.cosb) ∧
  DzrDoes .getsinb false (fun s _ => s.inputs.sinb) ∧
  DzrDoes .getpix false (fun s _ => s.inputs.pixAddress) ∧
  poll .polctra (fun s => s.cog.ctra.running && s.inputs.wrapa) ∧
  poll .polctrb (fun s => s.cog.ctrb.running && s.inputs.wrapb) ∧
  poll .polvid (fun s => s.inputs.vidReady)

/-- REPS, REPD, SETSKIP, NOPX and SETCOG set up the repeat unit, the skip pattern, the NOP count and
COGSEL. R242, R452 to R455; a count or length of 0 is not described, and that the block
belongs to the executing task is the model's choice (notes/assumptions/38.md). SETSKIP
is read as notes/assumptions/39.md says, SETCOG, which has no encoding, as notes/assumptions/41.md, NOPX
as notes/assumptions/53.md. -/
def Obligations.RepeatSkipAndIdleSetup : Prop :=
  let repeats := fun (mk : RepeatOps → Instr) (ahead : RegAddr) =>
    ∀ (o : RepeatOps) (s : State), readyDn o.cond o.d s →
      ∃ (count : Word) (len : BitVec 5),
        Completes (mk o) (dimmReg o.d) noReg
          { rep := some ⟨count, len, s.cog.pcNow + ahead, s.cog.cur⟩ } s ∧
        (numberOf 9 s o.d ≠ 0#32 → count = numberOf 9 s o.d) ∧ (o.len ≠ 0#5 → len = o.len)
  repeats .reps 2#9 ∧ repeats .repd 4#9 ∧
  DnDoes .setskip 6 (fun s v => { cog := fun c => { c with skip := v, skipTask := s.cog.cur } }) ∧
  DnSets .nopx 9 (fun v c => { c with nops := v }) ∧
  DnSets .setcog 9 (fun v c => { c with cogsel := BitVec.ofNat 4 v.toNat })

/-- A repeat block of some instructions jumps back until its count is used up, and then runs on.
R454, R25. That the block repeats for the task that executed REPS or REPD alone is the model's choice
(notes/assumptions/38.md). -/
def Obligations.RepeatBlockRuns : Prop :=
  ∀ c : Cog,
    let last := BitVec.ofNat 9 (c.rep.start.toNat + c.rep.len.toNat + 511)
    let on := BitVec.ofNat 9 (c.pcNow.toNat + 1)
    (c.rep.count.toNat ≠ 0 → c.rep.task = c.cur → c.pcNow = last →
      (nextPc c).1 = (if c.rep.count.toNat = 1 then on else c.rep.start) ∧
      (nextPc c).2.count.toNat = c.rep.count.toNat - 1 ∧ (nextPc c).2.len = c.rep.len ∧
      (nextPc c).2.start = c.rep.start ∧ (nextPc c).2.task = c.rep.task) ∧
    (c.rep.count.toNat = 0 ∨ c.rep.task ≠ c.cur ∨ c.pcNow ≠ last → nextPc c = (on, c.rep))

/-- ROM stores, SETMAP, SETXFR, the older SETINDx words, the math unit reads and too fresh QUADs are
refused by name, the last by every instruction that reads one. The rules or the defaults of the spec
refuse these themselves (notes/assumptions/25.md, 27.md, 49.md to 51.md). Instructions that only write D
do not read it (R133); JMPRET and JMPRETD read it where WZ or WR is given (notes/assumptions/54.md). -/
def Obligations.StopsTheRulesGive : Prop :=
  let rom := fun (mk : HubWrOps → Instr) (k : Nat) =>
    ∀ (o : HubWrOps) (s : State), readyHub true o.cond o.d o.addr s →
      (hubAddr k s.inputs s.cog o.addr).toNat < 0xE80 → exec (mk o) s = .refused .romWrite
  rom .wrbyte 0 ∧ rom .wrword 1 ∧ rom .wrlong 2 ∧
  (∀ (o : QuadOps) (s : State), readyQuad o.cond o.addr s →
    (hubAddr 4 s.inputs s.cog o.addr).toNat < 0xE80 → exec (.wrquad o) s = .refused .romWrite) ∧
  (∀ (o : DnOps) (s : State), readyDn o.cond o.d s →
    exec (.setmap o) s = .refused .registerRemap ∧ exec (.setxfr o) s = .refused .dataStreamer) ∧
  (∀ (o : DSOps) (s : State), readyDS false o.cond o.d o.s s →
    exec (.setindaOld o) s = .refused .supersededWord ∧
    exec (.setindbOld o) s = .refused .supersededWord) ∧
  (∀ (o : DCOps) (s : State), readyD false o.cond o.d s →
    exec (.getmull o) s = .refused .mathUnit ∧ exec (.getmulh o) s = .refused .mathUnit ∧
    exec (.getdivq o) s = .refused .mathUnit ∧ exec (.getdivr o) s = .refused .mathUnit ∧
    exec (.getsqrt o) s = .refused .mathUnit ∧ exec (.getqx o) s = .refused .mathUnit ∧
    exec (.getqy o) s = .refused .mathUnit ∧ exec (.getqz o) s = .refused .mathUnit) ∧
  let src := fun x : Src => match x with | .reg r => [r] | .imm _ => []
  let num := fun x : DImm => match x with | .reg r => [r] | .imm _ => []
  let hub := fun x : HubOperand => match x with | .reg r => [r] | .ptr _ => []
  let hazard := fun {α : Type} (cond : α → Cond) (ind : α → Bool) (reads : α → List Reg)
      (l : List (α → Instr)) =>
    ∀ mk ∈ l, ∀ (o : α) (s : State), executes s.cog (cond o) (ind o) = true → ∀ x ∈ reads o,
      s.cog.qbase.toNat < 0x1F8 → s.cog.qbase.toNat ≤ (addrOf s x).toNat →
      (addrOf s x).toNat < s.cog.qbase.toNat + 4 → s.cog.fillAge < 4 ∨ s.cog.mapAge < 3 →
      exec (mk o) s = .refused .quadTooSoon
  hazard (α := HubWrOps) (·.cond) (fun o => o.d.isInd || o.addr.isInd) (fun o => o.d :: hub o.addr)
    [Instr.wrbyte, .wrword, .wrlong] ∧
  hazard (α := HubRdOps) (·.cond) (fun o => o.d.isInd || o.addr.isInd) (fun o => hub o.addr)
    [Instr.rdbyte, .rdbytec, .rdword, .rdwordc, .rdlong, .rdlongc] ∧
  hazard (α := QuadOps) (·.cond) (fun o => o.addr.isInd) (fun o => hub o.addr)
    [Instr.wrquad, .rdquad, .rdquadc] ∧
  hazard (α := CogIniOps) (·.cond) (fun o => o.d.isInd || o.s.isInd) (fun o => [o.d, o.s])
    [Instr.coginit] ∧
  hazard (α := D0Ops) (·.cond) (fun o => o.d.isInd) (fun o => [o.d])
    [Instr.clkset, .cogstop, .lockret, .passcnt] ∧
  hazard (α := DCOps) (·.cond) (fun o => o.d.isInd) (fun o => [o.d])
    [Instr.lockset, .lockclr, .sndser] ∧
  hazard (α := DZCROps) (·.cond) (fun o => o.d.isInd) (fun o => [o.d]) [Instr.pushzc, .popzc] ∧
  hazard (α := DZROps) (·.cond) (fun o => o.d.isInd) (fun o => [o.d])
    [Instr.decod5, .decod4, .decod3, .decod2, .blmask, .not, .onecnt, .zercnt, .incpat, .decpat,
      .bingry, .grybin, .mergew, .splitw, .seussf, .seussr] ∧
  hazard (α := DBitOps) (·.cond) (fun o => o.d.isInd) (fun o => [o.d])
    [Instr.isob, .notb, .clrb, .setb, .setbc, .setbnc, .setbz, .setbnz] ∧
  hazard (α := CallOps) (·.cond) (fun o => o.d.isInd) (fun o => [o.d]) [Instr.call, .calld] ∧
  hazard (α := DnMaskOps) (·.cond) (fun o => o.d.isInd) (fun o => num o.d) [Instr.jmptask] ∧
  hazard (α := DnZCOps) (·.cond) (fun o => o.d.isInd) (fun o => num o.d)
    [Instr.setzc, .getp, .getpn] ∧
  hazard (α := RepeatOps) (·.cond) (fun o => o.d.isInd) (fun o => num o.d) [Instr.reps, .repd] ∧
  hazard (α := DnOps) (·.cond) (fun o => o.d.isInd) (fun o => num o.d)
    [Instr.nopx, .setspa, .setspb, .addspa, .addspb, .subspa, .subspb, .pushar,
      .pushbr, .pusha, .pushb, .calla, .callb, .callad, .callbd, .setptra, .setptrb,
      .addptra, .addptrb, .subptra, .subptrb, .setpix, .setpixu, .setpixv, .setpixz,
      .setpixa, .setpixr, .setpixg, .setpixb, .settask, .cfgdac0, .cfgdac1, .cfgdac2,
      .cfgdac3, .setdac0, .setdac1, .setdac2, .setdac3, .cfgdacs, .setdacs, .offp,
      .notp, .clrp, .setp, .setpc, .setpnc, .setpz, .setpnz, .setmap, .setquad,
      .setquaz, .setport, .setpora, .setporb, .setporc, .setpord, .setxch, .setxfr,
      .setser, .setskip, .setvid, .setvidy, .setvidi, .setvidq, .setctra, .setwava,
      .setfrqa, .setphsa, .addphsa, .subphsa, .setctrb, .setwavb, .setfrqb, .setphsb,
      .addphsb, .subphsb, .setcog] ∧
  hazard (α := DSOps) (·.cond) (fun o => o.d.isInd || o.s.isInd) (fun o => o.d :: src o.s)
    [Instr.setacca, .setaccb, .maca, .macb, .tjz, .tjzd, .tjnz, .tjnzd, .cfgpins, .waitvid,
      .waitpeq, .waitpne, .jp, .jnp] ∧
  hazard (α := DSOps) (·.cond) (fun o => o.d.isInd || o.s.isInd) (fun o => src o.s)
    [Instr.setindaOld, .setindbOld] ∧
  hazard (α := MulOps) (·.cond) (fun o => o.d.isInd || o.s.isInd) (fun o => o.d :: src o.s)
    [Instr.mul, .scl] ∧
  hazard (α := DSROps) (·.cond) (fun o => o.d.isInd || o.s.isInd) (fun o => o.d :: src o.s)
    [Instr.ijz, .ijzd, .ijnz, .ijnzd, .djz, .djzd, .djnz, .djnzd] ∧
  hazard (α := WaitCOps) (·.cond) (fun o => o.d.isInd || o.s.isInd) (fun o => o.d :: src o.s)
    [Instr.waitcnt] ∧
  hazard (α := JumpOps) (·.cond) (fun o => o.s.isInd) (fun o => src o.s) [Instr.jmp, .jmpd] ∧
  hazard (α := AluZOps) (·.cond) (fun o => o.d.isInd || o.s.isInd) (fun o => src o.s)
    [Instr.enc] ∧
  hazard (α := AluZOps) (·.cond) (fun o => o.d.isInd || o.s.isInd) (fun o => o.d :: src o.s)
    [Instr.movs, .movd, .movi, .incmod, .decmod] ∧
  hazard (α := AluZOps) (·.cond) (fun o => o.d.isInd || o.s.isInd)
    (fun o => if o.z || o.r then o.d :: src o.s else src o.s) [Instr.jmpret, .jmpretd] ∧
  hazard (α := AluOps) (·.cond) (fun o => o.d.isInd || o.s.isInd) (fun o => src o.s)
    [Instr.mov, .neg, .abs, .absneg, .negc, .negnc, .negz, .negnz] ∧
  hazard (α := AluOps) (·.cond) (fun o => o.d.isInd || o.s.isInd) (fun o => o.d :: src o.s)
    [Instr.ror, .rol, .shr, .shl, .rcr, .rcl, .sar, .rev, .mins, .maxs, .min, .max, .and, .andn,
      .or, .xor, .muxc, .muxnc, .muxz, .muxnz, .add, .sub, .addabs, .subabs, .sumc, .sumnc, .sumz,
      .sumnz, .cmps, .cmpsx, .addx, .subx, .adds, .subs, .addsx, .subsx, .subr, .cmpsub]

/-- A call stores Z in bit 10, C in bit 9, the return address in bits 8:0 and zeros above; a return ignores
the upper bits. R341: what a call writes, and that a return ignores bits 31:11. R330 and R332: which
address is the return address, the one behind the call or, for a delayed call, four on, which is D13 and D14,
choices (notes/assumptions/37.md). -/
def Obligations.CallFrameLayout : Prop :=
  let frame := fun (s : State) (n : Nat) =>
    callFrame s.cog.flagZ s.cog.flagC (BitVec.ofNat 9 (s.cog.pcNow.toNat + n))
  (∀ (z c : Bool) (pc : RegAddr),
    (callFrame z c pc).toNat = z.toNat * 2 ^ 10 + c.toNat * 2 ^ 9 + pc.toNat ∧
    ∀ i, 11 ≤ i → (callFrame z c pc).getLsbD i = false) ∧
  (∀ (o : DnOps) (s : State), readyDn o.cond o.d s →
    (∃ t, exec (.calla o) s = .next t ∧
      t.cog.stk.rd s.cog.spa = frame s 1) ∧
    (∃ t, exec (.callb o) s = .next t ∧
      t.cog.stk.rd s.cog.spb = frame s 1) ∧
    (∃ t, exec (.callad o) s = .next t ∧
      t.cog.stk.rd s.cog.spa = frame s 4) ∧
    (∃ t, exec (.callbd o) s = .next t ∧
      t.cog.stk.rd s.cog.spb = frame s 4)) ∧
  ∀ (mk : NoDOps → Instr) (x : Ind), (mk, x) ∈ [(Instr.reta, Ind.a), (.retb, .b), (.retad, .a),
      (.retbd, .b)] →
    ∀ (o : NoDOps) (s : State) (v : Word), readyPlain o.cond s →
      (∀ i, i < 11 → v.getLsbD i = (s.cog.stk.rd (s.cog.sp x - 1#8)).getLsbD i) →
      ∃ t u, exec (mk o) s = .next t ∧
        exec (mk o) (s.setCog { s.cog with stk := s.cog.stk.wr (s.cog.sp x - 1#8) v }) = .next u ∧
        t.cog.tasks = u.cog.tasks

/-- A mapped QUAD stands for its register in reads, writes and fetches; fills and moves leave the
RAM below as it was; PINx and DIRx read the pins and direction bits. R36 whole, with the fetch of R22 and
the reads of R24 and R615; what a read of PINx and DIRx gives is D30, a choice (notes/assumptions/45.md). -/
def Obligations.QuadWindowOverlaysRegisters : Prop :=
  ∀ (inp : Inputs) (c : Cog) (a : RegAddr) (v : Word),
    let mapped := c.qbase.toNat < 0x1F8 ∧ c.qbase.toNat ≤ a.toNat ∧ a.toNat < c.qbase.toNat + 4
    let n : BitVec 2 := BitVec.ofNat 2 (a.toNat - c.qbase.toNat)
    (mapped → readReg inp c a = c.quads.rd n ∧
      (c.pcNow = a → fetch c = c.quads.rd n) ∧
      (∀ k, (writeReg c a v).quads.rd k = if k = n then v else c.quads.rd k) ∧
      ∀ b, (writeReg c a v).ram.rd b = if b = a ∧ a.toNat < 0x1F8 then v else c.ram.rd b) ∧
    (¬ mapped → a.toNat < 0x1F8 → readReg inp c a = c.ram.rd a ∧
      (c.pcNow = a → fetch c = c.ram.rd a) ∧ (writeReg c a v).quads = c.quads) ∧
    (¬ mapped → 0x1F8 ≤ a.toNat →
      let p := 32 * (c.por.rd (BitVec.ofNat 2 a.toNat)).toNat
      (∀ i < 32, (readReg inp c a).getLsbD i =
        if a.toNat < 0x1FC then inp.pinIn.getLsbD (p + i) else c.dir.getLsbD (p + i)) ∧
      (writeReg c a v).quads = c.quads) ∧
    (∀ (m : List Host.Cell) (ea : HubAddress), (cacheFill m ea c).ram = c.ram) ∧
    ∀ b, (mapQuads b c).ram = c.ram ∧ (mapQuads b c).quads = c.quads

/-- An instruction executes iff a field is a reference or its condition holds; where not, it completes as a
NOP that only moves the PC on; and what each operand form names is its register or zero-extended number.
R124 with the condition table at its default D1 (notes/assumptions/11.md). An instruction with a reference
is unconditional (R131, R276). Immediates are those of R127 and R129, references those of R271, whose
steps are D15 (notes/assumptions/22.md). -/
def Obligations.FailedConditionIsNop : Prop :=
  (∀ (c : Cog) (cond : Cond) (ind : Bool), executes c cond ind = true ↔
    ind = true ∨
      cond.getLsbD ((if c.flagC then 2 else 0) + (if c.flagZ then 1 else 0)) = true) ∧
  (∀ (c : Cog) (a : RegAddr) (m : BitVec 2),
    let at_ := fun p : IndPtr =>
      if m ≠ 3#2 then p.ptr.toNat else if p.ptr = p.top then p.bot.toNat else
        (p.ptr.toNat + 1) % 2 ^ 9
    regAddr c (.dir a) = a ∧ (regAddr c (.ind .a m)).toNat = at_ c.inda ∧
    (regAddr c (.ind .b m)).toNat = at_ c.indb) ∧
  (∀ (s : State) (r : Reg) (n : BitVec 9) (w : Nat), w ≤ 9 →
    sourceOf s (.reg r) = readReg s.inputs s.cog (addrOf s r) ∧
    numberOf w s (.reg r) = readReg s.inputs s.cog (addrOf s r) ∧
    (sourceOf s (.imm n)).toNat = n.toNat ∧ (numberOf w s (.imm n)).toNat = n.toNat % 2 ^ w) ∧
  let nop := fun {α : Type} (cond : α → Cond) (ind : α → Bool) (l : List (α → Instr)) =>
    ∀ mk ∈ l, ∀ (o : α) (s : State), ind o = false →
      (cond o).getLsbD ((if s.cog.flagC then 2 else 0) + (if s.cog.flagZ then 1 else 0)) = false →
      Completes (mk o) noReg noReg {} s
  nop (α := HubWrOps) (·.cond) (fun o => o.d.isInd || o.addr.isInd)
    [Instr.wrbyte, .wrword, .wrlong] ∧
  nop (α := HubRdOps) (·.cond) (fun o => o.d.isInd || o.addr.isInd)
    [Instr.rdbyte, .rdbytec, .rdword, .rdwordc, .rdlong, .rdlongc] ∧
  nop (α := CogIniOps) (·.cond) (fun o => o.d.isInd || o.s.isInd)
    [Instr.coginit] ∧
  nop (α := D0Ops) (·.cond) (fun o => o.d.isInd)
    [Instr.clkset, .cogid, .cogstop, .lockret, .passcnt] ∧
  nop (α := DZCOps) (·.cond) (fun o => o.d.isInd)
    [Instr.locknew, .rcvser, .getspd, .getspa, .getspb, .popar, .popbr, .popa, .popb] ∧
  nop (α := DCOps) (·.cond) (fun o => o.d.isInd)
    [Instr.lockset, .lockclr, .sndser, .getmull, .getmulh, .getdivq, .getdivr,
      .getsqrt, .getqx, .getqy, .getqz] ∧
  nop (α := PlainOps) (·.cond) (fun _ => false)
    [Instr.cachex, .ret, .retd] ∧
  nop (α := SelOps) (·.cond) (fun _ => false)
    [Instr.clracca, .clraccb, .clraccs, .fitacca, .fitaccb, .fitaccs] ∧
  nop (α := DZCROps) (·.cond) (fun o => o.d.isInd)
    [Instr.pushzc, .popzc, .getptra, .getptrb] ∧
  nop (α := DZROps) (·.cond) (fun o => o.d.isInd)
    [Instr.subcnt, .getcnt, .getacca, .getaccb, .getlfsr, .getpix, .decod5, .decod4,
      .decod3, .decod2, .blmask, .not, .onecnt, .zercnt, .incpat, .decpat, .bingry,
      .grybin, .mergew, .splitw, .seussf, .seussr, .getphsa, .getphza, .getcosa,
      .getsina, .getphsb, .getphzb, .getcosb, .getsinb] ∧
  nop (α := DZOps) (·.cond) (fun o => o.d.isInd)
    [Instr.gettops] ∧
  nop (α := NoDOps) (·.cond) (fun _ => false)
    [Instr.chkspd, .chkspa, .chkspb, .reta, .retb, .retad, .retbd] ∧
  nop (α := DnMaskOps) (·.cond) (fun o => o.d.isInd)
    [Instr.jmptask] ∧
  nop (α := DnOps) (·.cond) (fun o => o.d.isInd)
    [Instr.nopx, .setspa, .setspb, .addspa, .addspb, .subspa, .subspb, .pushar,
      .pushbr, .pusha, .pushb, .calla, .callb, .callad, .callbd, .setptra, .setptrb,
      .addptra, .addptrb, .subptra, .subptrb, .setpix, .setpixu, .setpixv, .setpixz,
      .setpixa, .setpixr, .setpixg, .setpixb, .settask, .cfgdac0, .cfgdac1, .cfgdac2,
      .cfgdac3, .setdac0, .setdac1, .setdac2, .setdac3, .cfgdacs, .setdacs, .offp,
      .notp, .clrp, .setp, .setpc, .setpnc, .setpz, .setpnz, .setmap, .setquad,
      .setquaz, .setport, .setpora, .setporb, .setporc, .setpord, .setxch, .setxfr,
      .setser, .setskip, .setvid, .setvidy, .setvidi, .setvidq, .setctra, .setwava,
      .setfrqa, .setphsa, .addphsa, .subphsa, .setctrb, .setwavb, .setfrqb, .setphsb,
      .addphsb, .subphsb, .setcog] ∧
  nop (α := DnZCOps) (·.cond) (fun o => o.d.isInd)
    [Instr.setzc, .getp, .getpn] ∧
  nop (α := QuadOps) (·.cond) (fun o => o.addr.isInd)
    [Instr.wrquad, .rdquad, .rdquadc] ∧
  nop (α := IgnOps) (·.cond) (fun _ => false)
    [Instr.synctra, .capctra, .synctrb, .capctrb] ∧
  nop (α := DBitOps) (·.cond) (fun o => o.d.isInd)
    [Instr.isob, .notb, .clrb, .setb, .setbc, .setbnc, .setbz, .setbnz] ∧
  nop (α := DSOps) (·.cond) (fun o => o.d.isInd || o.s.isInd)
    [Instr.setacca, .setaccb, .maca, .macb, .tjz, .tjzd, .tjnz, .tjnzd, .cfgpins,
      .waitvid, .waitpeq, .waitpne, .setindaOld, .setindbOld, .jp, .jnp] ∧
  nop (α := MulOps) (·.cond) (fun o => o.d.isInd || o.s.isInd)
    [Instr.mul, .scl] ∧
  nop (α := AluZOps) (·.cond) (fun o => o.d.isInd || o.s.isInd)
    [Instr.enc, .jmpret, .movs, .movd, .movi, .jmpretd, .incmod, .decmod] ∧
  nop (α := AluOps) (·.cond) (fun o => o.d.isInd || o.s.isInd)
    [Instr.ror, .rol, .shr, .shl, .rcr, .rcl, .sar, .rev, .mins, .maxs, .min, .max,
      .and, .andn, .or, .xor, .muxc, .muxnc, .muxz, .muxnz, .add, .sub, .addabs,
      .subabs, .sumc, .sumnc, .sumz, .sumnz, .mov, .neg, .abs, .absneg, .negc, .negnc,
      .negz, .negnz, .cmps, .cmpsx, .addx, .subx, .adds, .subs, .addsx, .subsx, .subr,
      .cmpsub] ∧
  nop (α := DSROps) (·.cond) (fun o => o.d.isInd || o.s.isInd)
    [Instr.ijz, .ijzd, .ijnz, .ijnzd, .djz, .djzd, .djnz, .djnzd] ∧
  nop (α := WaitCOps) (·.cond) (fun o => o.d.isInd || o.s.isInd)
    [Instr.waitcnt] ∧
  nop (α := RepeatOps) (·.cond) (fun o => o.d.isInd)
    [Instr.reps, .repd] ∧
  nop (α := PollOps) (·.cond) (fun _ => false)
    [Instr.polctra, .polctrb, .polvid] ∧
  nop (α := JumpOps) (·.cond) (fun o => o.s.isInd)
    [Instr.jmp, .jmpd] ∧
  nop (α := CallOps) (·.cond) (fun o => o.d.isInd)
    [Instr.call, .calld]

/-- A step of a running COG runs the instruction its long decodes to, once its cycle has begun; a cancelled
slot, a skipped one and a bad word that does not execute have no effect of their own, and what the rules
refuse is refused. R560, R453, R22, R771, R776, R150, R151, R158 around exec; what the start of a cycle does
is stated in TaskSlotsRotateAndSettaskIsLate and BranchShadowAndDelay. What the spec decides here: D36
and D40 (a cancelled slot has no effect but to end the phases; notes/assumptions/26.md, 40.md), D41 (SETSKIP;
39.md), D12 and D4 (refused fetches and words; 23.md, 18.md), U5 and U6 (24.md, 25.md). -/
def Obligations.StepRunsTheDecodedInstruction : Prop :=
  ∀ s : State, s.cog.run = .running → s.cog.nops = 0#32 →
    let c := beginSlot s.cog
    let s1 := s.setCog (useSkipBit c)
    let w := fetch c
    let nop := ∃ t, step s = .next (finish t) ∧ Did {} noReg noReg s1 t
    let skipped := c.skipTask = c.cur ∧ c.skip.getLsbD 0 = true
    let fresh := c.wrote1 = some c.pcNow ∨ c.wrote2 = some c.pcNow
    let early := c.qbase.toNat < 0x1F8 ∧ c.qbase.toNat ≤ c.pcNow.toNat ∧
      c.pcNow.toNat < c.qbase.toNat + 4 ∧ (c.fillAge < 5 ∨ c.mapAge < 5)
    (slotCancelled s.cog = true → step s = .next (finish (s.setCog
      { c with cntPhase := false, accaPhase := false, accbPhase := false }))) ∧
    (slotCancelled s.cog = false →
      (0x1F6 ≤ c.pcNow.toNat → step s = .refused .fetchSpecial) ∧
      (c.pcNow.toNat < 0x1F6 →
        (skipped → nop) ∧
        (¬ skipped → fresh → step s = .refused .modifiedTooRecently) ∧
        (¬ skipped → ¬ fresh → early → step s = .refused .quadTooSoon) ∧
        (¬ skipped → ¬ fresh → ¬ early →
          (∀ i, decode w = .ok i →
            step s =
              match exec i s1 with
              | .next t => .next (if t.cog.stalled then waitTick t.cog.held s else finish t)
              | .fault r => .fault r
              | .refused r => .refused r) ∧
          ∀ e, decode w = .error e →
            match conditionOfAnyWord w with
            | none => step s = .refused (.badWord e)
            | some cond =>
              if cond.getLsbD ((if c.flagC then 2 else 0) + (if c.flagZ then 1 else 0)) = true then
                step s = .refused (.badWord e)
              else nop)))

/-- Under any TASK, a normal branch cancels the slots of its task in the next three cycles and no later
one; a delayed branch lets them execute and takes effect in the first slot from the fourth cycle on. R560,
R561 cycle by cycle and over any run of cycles: `cog m` is the COG at the end of the m-th cycle after the
branch, and between the cycles' beginnings other tasks, TASK and all other state may change at will. That a
later delayed branch is queued behind an earlier one is the spec's inference (R561). -/
def Obligations.BranchShadowAndDelay : Prop :=
  (∀ (c : Cog) (k : TaskId),
    let t := c.tasks.rd k
    let u := (beginSlot c).tasks.rd k
    let mine := k = slotTask c
    let due := t.delayed.filter fun e => e.rem == 0
    (beginSlot c).cur = slotTask c ∧ (mine → (slotCancelled c = true ↔ 0 < t.flush)) ∧
    u.z = t.z ∧ u.c = t.c ∧ u.flush = t.flush - 1 ∧
    u.pc = (if mine then (due.getLast?.map (·.target)).getD t.pc else t.pc) ∧
    u.delayed = ((if mine then t.delayed.filter fun e => e.rem != 0 else t.delayed).map fun e =>
      { e with rem := e.rem - 1 })) ∧
  (∀ (c : Cog) (target : RegAddr) (k : TaskId),
    (jump target c).tasks.rd k =
      (if k = c.cur then { c.tasks.rd k with pc := target, flush := 3, delayed := [] }
        else c.tasks.rd k) ∧
    (jumpDelayed target c).tasks.rd k =
      (if k = c.cur then
        { c.tasks.rd k with delayed := (c.tasks.rd k).delayed ++ [⟨target, 3⟩] }
        else c.tasks.rd k)) ∧
  ∀ (c : Cog) (target : RegAddr) (cog : Nat → Cog) (n : Nat),
    let t := c.cur
    let after := fun m : Nat => (beginSlot (cog m)).tasks.rd t
    slotTask (cog n) = t →
    (cog 0 = jump target c → (∀ m < n, (cog (m + 1)).tasks.rd t = after m) →
      (n < 3 → slotCancelled (cog n) = true) ∧
      (3 ≤ n → slotCancelled (cog n) = false ∧ (after n).pc = target ∧ (after n).delayed = [])) ∧
    (cog 0 = jumpDelayed target c → c.tsk.flush = 0 → (∀ e ∈ c.tsk.delayed, e.rem ≤ 3) →
      (∀ m < n, ((cog (m + 1)).tasks.rd t).flush = (after m).flush ∧
        ((cog (m + 1)).tasks.rd t).delayed = (after m).delayed) →
      slotCancelled (cog n) = false ∧
      (n < 3 → c.tsk.delayed = [] → (after n).pc = ((cog n).tasks.rd t).pc) ∧
      (3 ≤ n → (∀ m, 3 ≤ m → m < n → slotTask (cog m) ≠ t) →
        (after n).pc = target ∧ (after n).delayed = []))

/-- A loading COG reads one of its missing longs a step, any of them, and then runs; an idle COG, a stuck one
and a NOPX let only time pass. R241, R95, R52, R452; a COG is stuck only under the other RomWritePolicy (R87). That a step reads one long, drawn from the missing ones, is
notes/assumptions/10.md; that a NOPX is one step for each NOP is notes/assumptions/53.md. -/
def Obligations.LoadingIdleAndNopSteps : Prop :=
  ∀ s : State,
    let same := fun t : State => t.mem = s.mem ∧ t.locks = s.locks ∧ t.clk = s.clk ∧
      t.pinCfg = s.pinCfg ∧ ∀ n, n ≠ s.turn → t.cogs.rd n = s.cogs.rd n
    let byte := fun i : Nat => readByte s.mem (BitVec.ofNat 17 i)
    ((s.cog.run = .idle ∨ s.cog.run = .stuck) → ∃ t, step s = .next t ∧ same t ∧ t.cogs.rd s.turn = s.cog) ∧
    (∀ (left : List RegAddr) (a : HubAddress), s.cog.run = .loading left a → left ≠ [] →
      alignTo 2 a = a → ∃ k ∈ left, ∃ t, step s = .next t ∧ same t ∧
        (let i := a.toNat + 4 * k.toNat
         (t.cogs.rd s.turn).ram.rd k = byte (i + 3) ++ byte (i + 2) ++ byte (i + 1) ++ byte i) ∧
        (∀ r : RegAddr, r ≠ k → (t.cogs.rd s.turn).ram.rd r = s.cog.ram.rd r) ∧
        (t.cogs.rd s.turn).run =
          (if left.erase k = [] then .running else .loading (left.erase k) a) ∧
        { t.cogs.rd s.turn with ram := s.cog.ram, run := s.cog.run } = s.cog) ∧
    (s.cog.run = .running → s.cog.nops ≠ 0#32 → ∃ t, step s = .next t ∧ same t ∧
      t.cogs.rd s.turn = { s.cog with nops := s.cog.nops - 1#32 })

/-- Every step keeps the invariant: canonical memory, pipeline counters in range, admitted QUAD
bases, sound loads. Over every instruction, every operand and every kind of step. The admitted bases are D34
(notes/assumptions/28.md), the delay of SETTASK is D17 (notes/assumptions/36.md), the ages are the model's
count for R775 to R777 (notes/assumptions/25.md). -/
def Obligations.StepKeepsTheInvariant : Prop :=
  ∀ s t : State, Inv s → step s = .next t → Inv t

/-- The state after reset meets the invariant. The base case of StepKeepsTheInvariant. Which COG
runs is the model's choice (notes/assumptions/1.md). -/
def Obligations.ResetMeetsTheInvariant : Prop := Inv State.reset

/-- After reset CLK and CNT are 0, and TASK, the four tasks, the QUADs, COGSEL and the ports of every COG
hold the values of a COG start. R760 for CLK and CNT, R54 for COG 0, which is the COG that runs by D2
(notes/assumptions/1.md); that the idle COGs hold the same values, which R54 leaves open after a chip
reset, is the model's choice (notes/assumptions/3.md). The values of D8, D35, D40, D44 are decisions of
the spec. No other value of reset is stated. -/
def Obligations.ResetLeavesTheSpecsValues : Prop :=
  State.reset.clk = 0#9 ∧ State.reset.cnt = 0#64 ∧
  ∀ n : CogId,
    let c := State.reset.cogs.rd n
    (∀ t : TaskId, c.tasks.rd t = ⟨false, false, BitVec.ofNat 9 t.toNat, 0, []⟩) ∧
    c.task = 0#32 ∧ (∀ k, c.quads.rd k = 0#32) ∧ 0x1F8 ≤ c.qbase.toNat ∧ c.qvalid = false ∧
    c.cogsel = 0#4 ∧ c.cntPhase = false ∧ c.accaPhase = false ∧ c.accbPhase = false ∧
    c.rep.count = 0#32 ∧ c.skip = 0#32 ∧ c.nops = 0#32 ∧
    ∀ k : BitVec 2, (c.por.rd k).toNat = k.toNat

/-- Only the instructions meant for it change another COG, HUB memory, the locks, CLK or the pin
configuration. A frame over the whole instruction set. -/
def Obligations.SharedStateHasOwners : Prop :=
  ∀ (i : Instr) (s t : State), exec i s = .next t →
    (match i with
      | .coginit _ | .cogstop _ | .clkset _ => True
      | _ => ∀ n, n ≠ s.turn → t.cogs.rd n = s.cogs.rd n) ∧
    (match i with
      | .wrbyte _ | .wrword _ | .wrlong _ | .wrquad _ | .clkset _ => True
      | _ => t.mem = s.mem) ∧
    (match i with
      | .locknew _ | .lockret _ | .lockset _ | .lockclr _ | .clkset _ => True
      | _ => t.locks = s.locks) ∧
    (match i with
      | .clkset _ => True
      | _ => t.clk = s.clk ∧ t.cnt = s.cnt) ∧
    (match i with
      | .cfgpins _ | .clkset _ => True
      | _ => t.pinCfg = s.pinCfg) ∧
    t.turn = s.turn ∧ t.tick = s.tick ∧ t.inputs = s.inputs

/-- An instruction changes the flags of no task but its own, and the PC of another task only as
JMPTASK. R26: Z and C of task t are written only by an instruction executed by task t. -/
def Obligations.TasksKeepTheirOwnFlags : Prop :=
  ∀ (i : Instr) (s t : State), exec i s = .next t →
    match i with
    | .coginit _ | .clkset _ => True
    | .jmptask _ => t.cog.cur = s.cog.cur ∧ ∀ k, k ≠ s.cog.cur →
        (t.cog.tasks.rd k).z = (s.cog.tasks.rd k).z ∧ (t.cog.tasks.rd k).c = (s.cog.tasks.rd k).c
    | _ => t.cog.cur = s.cog.cur ∧ ∀ k, k ≠ s.cog.cur → t.cog.tasks.rd k = s.cog.tasks.rd k

/-- No step changes a byte of ROM. R81, R87: a write to ROM is not admitted, RomWritePolicy at its default
D6 (notes/assumptions/27.md). It holds through stores, loads, COG starts and the
reset by CLKSET alike. The 32 bytes at $00000 are those that E1 of 95_test_vectors.md prints; that they
are the ROM's is PRESUMED, since N26 doubts it (notes/assumptions/5.md). -/
def Obligations.RomNeverChanges : Prop :=
  ∀ s t : State, Inv s → step s = .next t → ∀ a : HubAddress, a.toNat < 0xE80 →
    readByte t.mem a = readByte s.mem a ∧
    (a.toNat < 0x20 → (readByte t.mem a).toNat =
      [0x50, 0x72, 0x6F, 0x70, 0x32, 0x2E, 0x30, 0x20, 0x00, 0x20, 0x7C, 0x0C, 0x03, 0xCC, 0x7C, 0x0C,
        0x45, 0xFE, 0xC1, 0x0D, 0xE3, 0xB6, 0xFC, 0x0C, 0x01, 0xC6, 0x7C, 0x0C, 0x01, 0xC6, 0x7C,
        0x0D].getD a.toNat 0)

/-- A byte, word or long read gives what a store of its unit wrote, other units are untouched, and
memory is its bytes. R82 to R86. -/
def Obligations.MemoryReadsBackWhatWasWritten : Prop :=
  (∀ (m : List Host.Cell) (a b : HubAddress), Memory.wf m = true → 0xE80 ≤ a.toNat →
    (∀ v, Memory.wf (memWrite1 m a v) = true ∧
      memRead1 (memWrite1 m a v) b = if b = a then v else memRead1 m b) ∧
    (∀ v, Memory.wf (memWrite2 m a v) = true ∧
      memRead2 (memWrite2 m a v) b = if b.toNat / 2 = a.toNat / 2 then v else memRead2 m b) ∧
    ∀ v, Memory.wf (memWrite4 m a v) = true ∧
      memRead4 (memWrite4 m a v) b = if b.toNat / 4 = a.toNat / 4 then v else memRead4 m b) ∧
  ∀ m n : List Host.Cell, Memory.wf m = true → Memory.wf n = true →
    (∀ a, readByte m a = readByte n a) → m = n

/-- Decoding the word of a well-formed instruction gives the instruction back, and the word of an
alias means what the alias does. For the whole instruction set and every operand; the aliases
are those of R156, which takes them from general knowledge, G3 (notes/assumptions/19.md). -/
def Obligations.DecodeUndoesEncode : Prop :=
  ∀ i : Instr, i.wellFormed = true →
    (hasOwnWords i = true → ∃ w, encode i = some w ∧ decode w = .ok i) ∧
    (hasOwnWords i = false → ∀ w, encode i = some w →
      ∃ j, decode w = .ok j ∧ ∀ s, exec j s = exec i s)

/-- Every long that decodes is the one word of its instruction, which is well-formed. The other
direction: nothing of a word is lost. -/
def Obligations.EncodeUndoesDecode : Prop :=
  ∀ (w : Word) (i : Instr), decode w = .ok i →
    i.wellFormed = true ∧ hasOwnWords i = true ∧ encode i = some w

/-- Words written out from the spec decode to the instructions they stand for, and bad words are
refused by name. A sanity statement on words of 95_test_vectors.md. -/
def Obligations.DecodeReadsTheSpecsWords : Prop :=
  let r10 : Reg := .dir 0x010#9
  decode 0x087C2003#32 = .ok (.wrlong ⟨15#4, r10, .ptr ⟨false, false, false, 3#6⟩⟩) ∧
  decode 0x0DBC2011#32 = .ok (.coginit ⟨false, true, true, 15#4, r10, .dir 0x011#9⟩) ∧
  decode 0x0CFF02B1#32 = .ok (.rdquad ⟨15#4, .ptr ⟨true, true, false, 1#6⟩⟩) ∧
  decode 0xE0040100#32 = .ok (.setindaAddr ⟨0x100#9⟩) ∧
  decode 0x0CFC80AC#32 = .ok (.calla ⟨15#4, .imm 0x040#9⟩) ∧
  decode 0x0CFC809A#32 = .ok (.jmptask ⟨15#4, .imm 0x040#9, 10#4⟩) ∧
  decode 0x0CFC2125#32 = .ok (.notb ⟨false, true, 15#4, r10, 5#5⟩) ∧
  decode 0xA0D3EC07#32 = .ok (.mov ⟨false, false, true, 15#4, .ind .a 1#2, .imm 7#9⟩) ∧
  decode 0x837C2005#32 = .ok (.add ⟨true, true, false, 15#4, r10, .imm 5#9⟩) ∧
  decode 0xF6FC2005#32 = .ok (.djnz ⟨true, 15#4, r10, .imm 5#9⟩) ∧
  decode 0xFCFC2064#32 = .ok (.waitcnt ⟨false, true, 15#4, r10, .imm 100#9⟩) ∧
  decode 0x0CFC4ADB#32 = .ok (.setp ⟨15#4, .imm 37#9⟩) ∧
  decode 0x59FC2011#32 = .error .effectBit ∧ decode 0xA0C7EC07#32 = .error .indirectHalf ∧
  decode 0xF8FC2020#32 = .error .olderForm ∧ decode 0xE0080000#32 = .error .noRow
end

