-- ==== Sys2Proof/Laws/State.lean ====
section
/-!
SUPPORT. One lemma for each field and each update of a record, so that no later proof unfolds an
update; and the laws of reading and writing a bank.
-/
namespace Sys2Proof

theorem Bank.rd_wr {n : Nat} {α : Type} (v : Bank n α) (i j : BitVec n) (x : α) :
    (v.wr i x).rd j = if j = i then x else v.rd j := by
  unfold Bank.rd Bank.wr
  by_cases h : j = i
  · subst h; simp
  · have : i.toNat ≠ j.toNat := fun e => h (BitVec.eq_of_toNat_eq e.symm)
    simp [h, this]

@[simp] theorem Bank.rd_wr_self {n : Nat} {α : Type} (v : Bank n α) (i : BitVec n) (x : α) :
    (v.wr i x).rd i = x := by simp [Bank.rd_wr]

theorem Bank.rd_wr_ne {n : Nat} {α : Type} (v : Bank n α) {i j : BitVec n} (x : α) (h : j ≠ i) :
    (v.wr i x).rd j = v.rd j := by simp [Bank.rd_wr, h]

theorem Bank.ext {n : Nat} {α : Type} {v w : Bank n α} (h : ∀ i, v.rd i = w.rd i) : v = w := by
  apply Vector.ext
  intro k hk
  have := h (BitVec.ofNatLT k hk)
  simpa [Bank.rd] using this

@[simp] theorem Bank.wr_wr {n : Nat} {α : Type} (v : Bank n α) (i : BitVec n) (x y : α) :
    (v.wr i x).wr i y = v.wr i y := by
  apply Bank.ext; intro j; simp only [Bank.rd_wr]; split <;> rfl

@[simp] theorem Bank.wr_rd {n : Nat} {α : Type} (v : Bank n α) (i : BitVec n) :
    v.wr i (v.rd i) = v := by
  apply Bank.ext; intro j; rw [Bank.rd_wr]; split
  · next h => rw [h]
  · rfl

namespace Machine

/-! ### State.setCog -/

@[simp] theorem State.setCog_mem (s : State) (c : Cog) : (s.setCog c).mem = s.mem := rfl
@[simp] theorem State.setCog_locks (s : State) (c : Cog) : (s.setCog c).locks = s.locks := rfl
@[simp] theorem State.setCog_clk (s : State) (c : Cog) : (s.setCog c).clk = s.clk := rfl
@[simp] theorem State.setCog_cnt (s : State) (c : Cog) : (s.setCog c).cnt = s.cnt := rfl
@[simp] theorem State.setCog_pinCfg (s : State) (c : Cog) : (s.setCog c).pinCfg = s.pinCfg := rfl
theorem State.setCog_cogs (s : State) (c : Cog) : (s.setCog c).cogs = s.cogs.wr s.turn c := rfl
@[simp] theorem State.setCog_inputs (s : State) (c : Cog) : (s.setCog c).inputs = s.inputs := rfl
@[simp] theorem State.setCog_turn (s : State) (c : Cog) : (s.setCog c).turn = s.turn := rfl
@[simp] theorem State.setCog_tick (s : State) (c : Cog) : (s.setCog c).tick = s.tick := rfl
@[simp] theorem State.setCog_cog (s : State) (c : Cog) : (s.setCog c).cog = c := by
  simp [State.cog, State.setCog]
@[simp] theorem State.setCog_setCog (s : State) (c d : Cog) : (s.setCog c).setCog d = s.setCog d := by
  simp [State.setCog]
theorem State.setCog_other (s : State) (c : Cog) {n : CogId} (h : n ≠ s.turn) :
    (s.setCog c).cogs.rd n = s.cogs.rd n := by simp [State.setCog, Bank.rd_wr, h]

/-! ### Cog.setTsk -/

@[simp] theorem Cog.setTsk_run (c : Cog) (t : TaskRegs) : (c.setTsk t).run = c.run := rfl
@[simp] theorem Cog.setTsk_ram (c : Cog) (t : TaskRegs) : (c.setTsk t).ram = c.ram := rfl
@[simp] theorem Cog.setTsk_stk (c : Cog) (t : TaskRegs) : (c.setTsk t).stk = c.stk := rfl
@[simp] theorem Cog.setTsk_task (c : Cog) (t : TaskRegs) : (c.setTsk t).task = c.task := rfl
@[simp] theorem Cog.setTsk_taskWrites (c : Cog) (t : TaskRegs) : (c.setTsk t).taskWrites = c.taskWrites := rfl
@[simp] theorem Cog.setTsk_cur (c : Cog) (t : TaskRegs) : (c.setTsk t).cur = c.cur := rfl
@[simp] theorem Cog.setTsk_stalled (c : Cog) (t : TaskRegs) : (c.setTsk t).stalled = c.stalled := rfl
@[simp] theorem Cog.setTsk_held (c : Cog) (t : TaskRegs) : (c.setTsk t).held = c.held := rfl
@[simp] theorem Cog.setTsk_ptra (c : Cog) (t : TaskRegs) : (c.setTsk t).ptra = c.ptra := rfl
@[simp] theorem Cog.setTsk_ptrb (c : Cog) (t : TaskRegs) : (c.setTsk t).ptrb = c.ptrb := rfl
@[simp] theorem Cog.setTsk_spa (c : Cog) (t : TaskRegs) : (c.setTsk t).spa = c.spa := rfl
@[simp] theorem Cog.setTsk_spb (c : Cog) (t : TaskRegs) : (c.setTsk t).spb = c.spb := rfl
@[simp] theorem Cog.setTsk_inda (c : Cog) (t : TaskRegs) : (c.setTsk t).inda = c.inda := rfl
@[simp] theorem Cog.setTsk_indb (c : Cog) (t : TaskRegs) : (c.setTsk t).indb = c.indb := rfl
@[simp] theorem Cog.setTsk_quads (c : Cog) (t : TaskRegs) : (c.setTsk t).quads = c.quads := rfl
@[simp] theorem Cog.setTsk_qbase (c : Cog) (t : TaskRegs) : (c.setTsk t).qbase = c.qbase := rfl
@[simp] theorem Cog.setTsk_qvalid (c : Cog) (t : TaskRegs) : (c.setTsk t).qvalid = c.qvalid := rfl
@[simp] theorem Cog.setTsk_qtag (c : Cog) (t : TaskRegs) : (c.setTsk t).qtag = c.qtag := rfl
@[simp] theorem Cog.setTsk_fillAge (c : Cog) (t : TaskRegs) : (c.setTsk t).fillAge = c.fillAge := rfl
@[simp] theorem Cog.setTsk_mapAge (c : Cog) (t : TaskRegs) : (c.setTsk t).mapAge = c.mapAge := rfl
@[simp] theorem Cog.setTsk_acca (c : Cog) (t : TaskRegs) : (c.setTsk t).acca = c.acca := rfl
@[simp] theorem Cog.setTsk_accb (c : Cog) (t : TaskRegs) : (c.setTsk t).accb = c.accb := rfl
@[simp] theorem Cog.setTsk_accaPhase (c : Cog) (t : TaskRegs) : (c.setTsk t).accaPhase = c.accaPhase := rfl
@[simp] theorem Cog.setTsk_accbPhase (c : Cog) (t : TaskRegs) : (c.setTsk t).accbPhase = c.accbPhase := rfl
@[simp] theorem Cog.setTsk_cntl (c : Cog) (t : TaskRegs) : (c.setTsk t).cntl = c.cntl := rfl
@[simp] theorem Cog.setTsk_cntPhase (c : Cog) (t : TaskRegs) : (c.setTsk t).cntPhase = c.cntPhase := rfl
@[simp] theorem Cog.setTsk_math (c : Cog) (t : TaskRegs) : (c.setTsk t).math = c.math := rfl
@[simp] theorem Cog.setTsk_cogsel (c : Cog) (t : TaskRegs) : (c.setTsk t).cogsel = c.cogsel := rfl
@[simp] theorem Cog.setTsk_ctra (c : Cog) (t : TaskRegs) : (c.setTsk t).ctra = c.ctra := rfl
@[simp] theorem Cog.setTsk_ctrb (c : Cog) (t : TaskRegs) : (c.setTsk t).ctrb = c.ctrb := rfl
@[simp] theorem Cog.setTsk_cfgdac (c : Cog) (t : TaskRegs) : (c.setTsk t).cfgdac = c.cfgdac := rfl
@[simp] theorem Cog.setTsk_dacval (c : Cog) (t : TaskRegs) : (c.setTsk t).dacval = c.dacval := rfl
@[simp] theorem Cog.setTsk_video (c : Cog) (t : TaskRegs) : (c.setTsk t).video = c.video := rfl
@[simp] theorem Cog.setTsk_pixel (c : Cog) (t : TaskRegs) : (c.setTsk t).pixel = c.pixel := rfl
@[simp] theorem Cog.setTsk_xfr (c : Cog) (t : TaskRegs) : (c.setTsk t).xfr = c.xfr := rfl
@[simp] theorem Cog.setTsk_ser (c : Cog) (t : TaskRegs) : (c.setTsk t).ser = c.ser := rfl
@[simp] theorem Cog.setTsk_serTx (c : Cog) (t : TaskRegs) : (c.setTsk t).serTx = c.serTx := rfl
@[simp] theorem Cog.setTsk_map (c : Cog) (t : TaskRegs) : (c.setTsk t).map = c.map := rfl
@[simp] theorem Cog.setTsk_xch (c : Cog) (t : TaskRegs) : (c.setTsk t).xch = c.xch := rfl
@[simp] theorem Cog.setTsk_portsel (c : Cog) (t : TaskRegs) : (c.setTsk t).portsel = c.portsel := rfl
@[simp] theorem Cog.setTsk_por (c : Cog) (t : TaskRegs) : (c.setTsk t).por = c.por := rfl
@[simp] theorem Cog.setTsk_out (c : Cog) (t : TaskRegs) : (c.setTsk t).out = c.out := rfl
@[simp] theorem Cog.setTsk_dir (c : Cog) (t : TaskRegs) : (c.setTsk t).dir = c.dir := rfl
@[simp] theorem Cog.setTsk_skip (c : Cog) (t : TaskRegs) : (c.setTsk t).skip = c.skip := rfl
@[simp] theorem Cog.setTsk_skipTask (c : Cog) (t : TaskRegs) : (c.setTsk t).skipTask = c.skipTask := rfl
@[simp] theorem Cog.setTsk_rep (c : Cog) (t : TaskRegs) : (c.setTsk t).rep = c.rep := rfl
@[simp] theorem Cog.setTsk_nops (c : Cog) (t : TaskRegs) : (c.setTsk t).nops = c.nops := rfl
@[simp] theorem Cog.setTsk_wrote0 (c : Cog) (t : TaskRegs) : (c.setTsk t).wrote0 = c.wrote0 := rfl
@[simp] theorem Cog.setTsk_wrote1 (c : Cog) (t : TaskRegs) : (c.setTsk t).wrote1 = c.wrote1 := rfl
@[simp] theorem Cog.setTsk_wrote2 (c : Cog) (t : TaskRegs) : (c.setTsk t).wrote2 = c.wrote2 := rfl

theorem Cog.setTsk_tasks (c : Cog) (t : TaskRegs) : (c.setTsk t).tasks = c.tasks.wr c.cur t := rfl
@[simp] theorem Cog.setTsk_tsk (c : Cog) (t : TaskRegs) : (c.setTsk t).tsk = t := by
  simp [Cog.tsk, Cog.setTsk]
@[simp] theorem Cog.setTsk_self (c : Cog) : c.setTsk c.tsk = c := by simp [Cog.setTsk, Cog.tsk]

/-! ### stepPointers -/

@[simp] theorem stepPointers_run (d x : Reg) (c : Cog) : (stepPointers d x c).run = c.run := rfl
@[simp] theorem stepPointers_ram (d x : Reg) (c : Cog) : (stepPointers d x c).ram = c.ram := rfl
@[simp] theorem stepPointers_stk (d x : Reg) (c : Cog) : (stepPointers d x c).stk = c.stk := rfl
@[simp] theorem stepPointers_tasks (d x : Reg) (c : Cog) : (stepPointers d x c).tasks = c.tasks := rfl
@[simp] theorem stepPointers_task (d x : Reg) (c : Cog) : (stepPointers d x c).task = c.task := rfl
@[simp] theorem stepPointers_taskWrites (d x : Reg) (c : Cog) : (stepPointers d x c).taskWrites = c.taskWrites := rfl
@[simp] theorem stepPointers_cur (d x : Reg) (c : Cog) : (stepPointers d x c).cur = c.cur := rfl
@[simp] theorem stepPointers_stalled (d x : Reg) (c : Cog) : (stepPointers d x c).stalled = c.stalled := rfl
@[simp] theorem stepPointers_held (d x : Reg) (c : Cog) : (stepPointers d x c).held = c.held := rfl
@[simp] theorem stepPointers_ptra (d x : Reg) (c : Cog) : (stepPointers d x c).ptra = c.ptra := rfl
@[simp] theorem stepPointers_ptrb (d x : Reg) (c : Cog) : (stepPointers d x c).ptrb = c.ptrb := rfl
@[simp] theorem stepPointers_spa (d x : Reg) (c : Cog) : (stepPointers d x c).spa = c.spa := rfl
@[simp] theorem stepPointers_spb (d x : Reg) (c : Cog) : (stepPointers d x c).spb = c.spb := rfl
@[simp] theorem stepPointers_quads (d x : Reg) (c : Cog) : (stepPointers d x c).quads = c.quads := rfl
@[simp] theorem stepPointers_qbase (d x : Reg) (c : Cog) : (stepPointers d x c).qbase = c.qbase := rfl
@[simp] theorem stepPointers_qvalid (d x : Reg) (c : Cog) : (stepPointers d x c).qvalid = c.qvalid := rfl
@[simp] theorem stepPointers_qtag (d x : Reg) (c : Cog) : (stepPointers d x c).qtag = c.qtag := rfl
@[simp] theorem stepPointers_fillAge (d x : Reg) (c : Cog) : (stepPointers d x c).fillAge = c.fillAge := rfl
@[simp] theorem stepPointers_mapAge (d x : Reg) (c : Cog) : (stepPointers d x c).mapAge = c.mapAge := rfl
@[simp] theorem stepPointers_acca (d x : Reg) (c : Cog) : (stepPointers d x c).acca = c.acca := rfl
@[simp] theorem stepPointers_accb (d x : Reg) (c : Cog) : (stepPointers d x c).accb = c.accb := rfl
@[simp] theorem stepPointers_accaPhase (d x : Reg) (c : Cog) : (stepPointers d x c).accaPhase = c.accaPhase := rfl
@[simp] theorem stepPointers_accbPhase (d x : Reg) (c : Cog) : (stepPointers d x c).accbPhase = c.accbPhase := rfl
@[simp] theorem stepPointers_cntl (d x : Reg) (c : Cog) : (stepPointers d x c).cntl = c.cntl := rfl
@[simp] theorem stepPointers_cntPhase (d x : Reg) (c : Cog) : (stepPointers d x c).cntPhase = c.cntPhase := rfl
@[simp] theorem stepPointers_math (d x : Reg) (c : Cog) : (stepPointers d x c).math = c.math := rfl
@[simp] theorem stepPointers_cogsel (d x : Reg) (c : Cog) : (stepPointers d x c).cogsel = c.cogsel := rfl
@[simp] theorem stepPointers_ctra (d x : Reg) (c : Cog) : (stepPointers d x c).ctra = c.ctra := rfl
@[simp] theorem stepPointers_ctrb (d x : Reg) (c : Cog) : (stepPointers d x c).ctrb = c.ctrb := rfl
@[simp] theorem stepPointers_cfgdac (d x : Reg) (c : Cog) : (stepPointers d x c).cfgdac = c.cfgdac := rfl
@[simp] theorem stepPointers_dacval (d x : Reg) (c : Cog) : (stepPointers d x c).dacval = c.dacval := rfl
@[simp] theorem stepPointers_video (d x : Reg) (c : Cog) : (stepPointers d x c).video = c.video := rfl
@[simp] theorem stepPointers_pixel (d x : Reg) (c : Cog) : (stepPointers d x c).pixel = c.pixel := rfl
@[simp] theorem stepPointers_xfr (d x : Reg) (c : Cog) : (stepPointers d x c).xfr = c.xfr := rfl
@[simp] theorem stepPointers_ser (d x : Reg) (c : Cog) : (stepPointers d x c).ser = c.ser := rfl
@[simp] theorem stepPointers_serTx (d x : Reg) (c : Cog) : (stepPointers d x c).serTx = c.serTx := rfl
@[simp] theorem stepPointers_map (d x : Reg) (c : Cog) : (stepPointers d x c).map = c.map := rfl
@[simp] theorem stepPointers_xch (d x : Reg) (c : Cog) : (stepPointers d x c).xch = c.xch := rfl
@[simp] theorem stepPointers_portsel (d x : Reg) (c : Cog) : (stepPointers d x c).portsel = c.portsel := rfl
@[simp] theorem stepPointers_por (d x : Reg) (c : Cog) : (stepPointers d x c).por = c.por := rfl
@[simp] theorem stepPointers_out (d x : Reg) (c : Cog) : (stepPointers d x c).out = c.out := rfl
@[simp] theorem stepPointers_dir (d x : Reg) (c : Cog) : (stepPointers d x c).dir = c.dir := rfl
@[simp] theorem stepPointers_skip (d x : Reg) (c : Cog) : (stepPointers d x c).skip = c.skip := rfl
@[simp] theorem stepPointers_skipTask (d x : Reg) (c : Cog) : (stepPointers d x c).skipTask = c.skipTask := rfl
@[simp] theorem stepPointers_rep (d x : Reg) (c : Cog) : (stepPointers d x c).rep = c.rep := rfl
@[simp] theorem stepPointers_nops (d x : Reg) (c : Cog) : (stepPointers d x c).nops = c.nops := rfl
@[simp] theorem stepPointers_wrote0 (d x : Reg) (c : Cog) : (stepPointers d x c).wrote0 = c.wrote0 := rfl
@[simp] theorem stepPointers_wrote1 (d x : Reg) (c : Cog) : (stepPointers d x c).wrote1 = c.wrote1 := rfl
@[simp] theorem stepPointers_wrote2 (d x : Reg) (c : Cog) : (stepPointers d x c).wrote2 = c.wrote2 := rfl

/-! ### advance -/

@[simp] theorem advance_run (c : Cog) : (advance c).run = c.run := rfl
@[simp] theorem advance_ram (c : Cog) : (advance c).ram = c.ram := rfl
@[simp] theorem advance_stk (c : Cog) : (advance c).stk = c.stk := rfl
@[simp] theorem advance_task (c : Cog) : (advance c).task = c.task := rfl
@[simp] theorem advance_taskWrites (c : Cog) : (advance c).taskWrites = c.taskWrites := rfl
@[simp] theorem advance_cur (c : Cog) : (advance c).cur = c.cur := rfl
@[simp] theorem advance_stalled (c : Cog) : (advance c).stalled = c.stalled := rfl
@[simp] theorem advance_held (c : Cog) : (advance c).held = none := rfl
@[simp] theorem advance_ptra (c : Cog) : (advance c).ptra = c.ptra := rfl
@[simp] theorem advance_ptrb (c : Cog) : (advance c).ptrb = c.ptrb := rfl
@[simp] theorem advance_spa (c : Cog) : (advance c).spa = c.spa := rfl
@[simp] theorem advance_spb (c : Cog) : (advance c).spb = c.spb := rfl
@[simp] theorem advance_inda (c : Cog) : (advance c).inda = c.inda := rfl
@[simp] theorem advance_indb (c : Cog) : (advance c).indb = c.indb := rfl
@[simp] theorem advance_quads (c : Cog) : (advance c).quads = c.quads := rfl
@[simp] theorem advance_qbase (c : Cog) : (advance c).qbase = c.qbase := rfl
@[simp] theorem advance_qvalid (c : Cog) : (advance c).qvalid = c.qvalid := rfl
@[simp] theorem advance_qtag (c : Cog) : (advance c).qtag = c.qtag := rfl
@[simp] theorem advance_fillAge (c : Cog) : (advance c).fillAge = c.fillAge := rfl
@[simp] theorem advance_mapAge (c : Cog) : (advance c).mapAge = c.mapAge := rfl
@[simp] theorem advance_acca (c : Cog) : (advance c).acca = c.acca := rfl
@[simp] theorem advance_accb (c : Cog) : (advance c).accb = c.accb := rfl
@[simp] theorem advance_cntl (c : Cog) : (advance c).cntl = c.cntl := rfl
@[simp] theorem advance_math (c : Cog) : (advance c).math = c.math := rfl
@[simp] theorem advance_cogsel (c : Cog) : (advance c).cogsel = c.cogsel := rfl
@[simp] theorem advance_ctra (c : Cog) : (advance c).ctra = c.ctra := rfl
@[simp] theorem advance_ctrb (c : Cog) : (advance c).ctrb = c.ctrb := rfl
@[simp] theorem advance_cfgdac (c : Cog) : (advance c).cfgdac = c.cfgdac := rfl
@[simp] theorem advance_dacval (c : Cog) : (advance c).dacval = c.dacval := rfl
@[simp] theorem advance_video (c : Cog) : (advance c).video = c.video := rfl
@[simp] theorem advance_pixel (c : Cog) : (advance c).pixel = c.pixel := rfl
@[simp] theorem advance_xfr (c : Cog) : (advance c).xfr = c.xfr := rfl
@[simp] theorem advance_ser (c : Cog) : (advance c).ser = c.ser := rfl
@[simp] theorem advance_serTx (c : Cog) : (advance c).serTx = c.serTx := rfl
@[simp] theorem advance_map (c : Cog) : (advance c).map = c.map := rfl
@[simp] theorem advance_xch (c : Cog) : (advance c).xch = c.xch := rfl
@[simp] theorem advance_portsel (c : Cog) : (advance c).portsel = c.portsel := rfl
@[simp] theorem advance_por (c : Cog) : (advance c).por = c.por := rfl
@[simp] theorem advance_out (c : Cog) : (advance c).out = c.out := rfl
@[simp] theorem advance_dir (c : Cog) : (advance c).dir = c.dir := rfl
@[simp] theorem advance_skip (c : Cog) : (advance c).skip = c.skip := rfl
@[simp] theorem advance_skipTask (c : Cog) : (advance c).skipTask = c.skipTask := rfl
@[simp] theorem advance_nops (c : Cog) : (advance c).nops = c.nops := rfl
@[simp] theorem advance_wrote0 (c : Cog) : (advance c).wrote0 = c.wrote0 := rfl
@[simp] theorem advance_wrote1 (c : Cog) : (advance c).wrote1 = c.wrote1 := rfl
@[simp] theorem advance_wrote2 (c : Cog) : (advance c).wrote2 = c.wrote2 := rfl

/-! ### jumpTask -/

@[simp] theorem jumpTask_run (k : TaskId) (a : RegAddr) (c : Cog) : (jumpTask k a c).run = c.run := rfl
@[simp] theorem jumpTask_ram (k : TaskId) (a : RegAddr) (c : Cog) : (jumpTask k a c).ram = c.ram := rfl
@[simp] theorem jumpTask_stk (k : TaskId) (a : RegAddr) (c : Cog) : (jumpTask k a c).stk = c.stk := rfl
@[simp] theorem jumpTask_task (k : TaskId) (a : RegAddr) (c : Cog) : (jumpTask k a c).task = c.task := rfl
@[simp] theorem jumpTask_taskWrites (k : TaskId) (a : RegAddr) (c : Cog) : (jumpTask k a c).taskWrites = c.taskWrites := rfl
@[simp] theorem jumpTask_cur (k : TaskId) (a : RegAddr) (c : Cog) : (jumpTask k a c).cur = c.cur := rfl
@[simp] theorem jumpTask_stalled (k : TaskId) (a : RegAddr) (c : Cog) : (jumpTask k a c).stalled = c.stalled := rfl
@[simp] theorem jumpTask_held (k : TaskId) (a : RegAddr) (c : Cog) : (jumpTask k a c).held = c.held := rfl
@[simp] theorem jumpTask_ptra (k : TaskId) (a : RegAddr) (c : Cog) : (jumpTask k a c).ptra = c.ptra := rfl
@[simp] theorem jumpTask_ptrb (k : TaskId) (a : RegAddr) (c : Cog) : (jumpTask k a c).ptrb = c.ptrb := rfl
@[simp] theorem jumpTask_spa (k : TaskId) (a : RegAddr) (c : Cog) : (jumpTask k a c).spa = c.spa := rfl
@[simp] theorem jumpTask_spb (k : TaskId) (a : RegAddr) (c : Cog) : (jumpTask k a c).spb = c.spb := rfl
@[simp] theorem jumpTask_inda (k : TaskId) (a : RegAddr) (c : Cog) : (jumpTask k a c).inda = c.inda := rfl
@[simp] theorem jumpTask_indb (k : TaskId) (a : RegAddr) (c : Cog) : (jumpTask k a c).indb = c.indb := rfl
@[simp] theorem jumpTask_quads (k : TaskId) (a : RegAddr) (c : Cog) : (jumpTask k a c).quads = c.quads := rfl
@[simp] theorem jumpTask_qbase (k : TaskId) (a : RegAddr) (c : Cog) : (jumpTask k a c).qbase = c.qbase := rfl
@[simp] theorem jumpTask_qvalid (k : TaskId) (a : RegAddr) (c : Cog) : (jumpTask k a c).qvalid = c.qvalid := rfl
@[simp] theorem jumpTask_qtag (k : TaskId) (a : RegAddr) (c : Cog) : (jumpTask k a c).qtag = c.qtag := rfl
@[simp] theorem jumpTask_fillAge (k : TaskId) (a : RegAddr) (c : Cog) : (jumpTask k a c).fillAge = c.fillAge := rfl
@[simp] theorem jumpTask_mapAge (k : TaskId) (a : RegAddr) (c : Cog) : (jumpTask k a c).mapAge = c.mapAge := rfl
@[simp] theorem jumpTask_acca (k : TaskId) (a : RegAddr) (c : Cog) : (jumpTask k a c).acca = c.acca := rfl
@[simp] theorem jumpTask_accb (k : TaskId) (a : RegAddr) (c : Cog) : (jumpTask k a c).accb = c.accb := rfl
@[simp] theorem jumpTask_accaPhase (k : TaskId) (a : RegAddr) (c : Cog) : (jumpTask k a c).accaPhase = c.accaPhase := rfl
@[simp] theorem jumpTask_accbPhase (k : TaskId) (a : RegAddr) (c : Cog) : (jumpTask k a c).accbPhase = c.accbPhase := rfl
@[simp] theorem jumpTask_cntl (k : TaskId) (a : RegAddr) (c : Cog) : (jumpTask k a c).cntl = c.cntl := rfl
@[simp] theorem jumpTask_cntPhase (k : TaskId) (a : RegAddr) (c : Cog) : (jumpTask k a c).cntPhase = c.cntPhase := rfl
@[simp] theorem jumpTask_math (k : TaskId) (a : RegAddr) (c : Cog) : (jumpTask k a c).math = c.math := rfl
@[simp] theorem jumpTask_cogsel (k : TaskId) (a : RegAddr) (c : Cog) : (jumpTask k a c).cogsel = c.cogsel := rfl
@[simp] theorem jumpTask_ctra (k : TaskId) (a : RegAddr) (c : Cog) : (jumpTask k a c).ctra = c.ctra := rfl
@[simp] theorem jumpTask_ctrb (k : TaskId) (a : RegAddr) (c : Cog) : (jumpTask k a c).ctrb = c.ctrb := rfl
@[simp] theorem jumpTask_cfgdac (k : TaskId) (a : RegAddr) (c : Cog) : (jumpTask k a c).cfgdac = c.cfgdac := rfl
@[simp] theorem jumpTask_dacval (k : TaskId) (a : RegAddr) (c : Cog) : (jumpTask k a c).dacval = c.dacval := rfl
@[simp] theorem jumpTask_video (k : TaskId) (a : RegAddr) (c : Cog) : (jumpTask k a c).video = c.video := rfl
@[simp] theorem jumpTask_pixel (k : TaskId) (a : RegAddr) (c : Cog) : (jumpTask k a c).pixel = c.pixel := rfl
@[simp] theorem jumpTask_xfr (k : TaskId) (a : RegAddr) (c : Cog) : (jumpTask k a c).xfr = c.xfr := rfl
@[simp] theorem jumpTask_ser (k : TaskId) (a : RegAddr) (c : Cog) : (jumpTask k a c).ser = c.ser := rfl
@[simp] theorem jumpTask_serTx (k : TaskId) (a : RegAddr) (c : Cog) : (jumpTask k a c).serTx = c.serTx := rfl
@[simp] theorem jumpTask_map (k : TaskId) (a : RegAddr) (c : Cog) : (jumpTask k a c).map = c.map := rfl
@[simp] theorem jumpTask_xch (k : TaskId) (a : RegAddr) (c : Cog) : (jumpTask k a c).xch = c.xch := rfl
@[simp] theorem jumpTask_portsel (k : TaskId) (a : RegAddr) (c : Cog) : (jumpTask k a c).portsel = c.portsel := rfl
@[simp] theorem jumpTask_por (k : TaskId) (a : RegAddr) (c : Cog) : (jumpTask k a c).por = c.por := rfl
@[simp] theorem jumpTask_out (k : TaskId) (a : RegAddr) (c : Cog) : (jumpTask k a c).out = c.out := rfl
@[simp] theorem jumpTask_dir (k : TaskId) (a : RegAddr) (c : Cog) : (jumpTask k a c).dir = c.dir := rfl
@[simp] theorem jumpTask_skip (k : TaskId) (a : RegAddr) (c : Cog) : (jumpTask k a c).skip = c.skip := rfl
@[simp] theorem jumpTask_skipTask (k : TaskId) (a : RegAddr) (c : Cog) : (jumpTask k a c).skipTask = c.skipTask := rfl
@[simp] theorem jumpTask_rep (k : TaskId) (a : RegAddr) (c : Cog) : (jumpTask k a c).rep = c.rep := rfl
@[simp] theorem jumpTask_nops (k : TaskId) (a : RegAddr) (c : Cog) : (jumpTask k a c).nops = c.nops := rfl
@[simp] theorem jumpTask_wrote0 (k : TaskId) (a : RegAddr) (c : Cog) : (jumpTask k a c).wrote0 = c.wrote0 := rfl
@[simp] theorem jumpTask_wrote1 (k : TaskId) (a : RegAddr) (c : Cog) : (jumpTask k a c).wrote1 = c.wrote1 := rfl
@[simp] theorem jumpTask_wrote2 (k : TaskId) (a : RegAddr) (c : Cog) : (jumpTask k a c).wrote2 = c.wrote2 := rfl

/-! ### jumpDelayed -/

@[simp] theorem jumpDelayed_run (a : RegAddr) (c : Cog) : (jumpDelayed a c).run = c.run := rfl
@[simp] theorem jumpDelayed_ram (a : RegAddr) (c : Cog) : (jumpDelayed a c).ram = c.ram := rfl
@[simp] theorem jumpDelayed_stk (a : RegAddr) (c : Cog) : (jumpDelayed a c).stk = c.stk := rfl
@[simp] theorem jumpDelayed_task (a : RegAddr) (c : Cog) : (jumpDelayed a c).task = c.task := rfl
@[simp] theorem jumpDelayed_taskWrites (a : RegAddr) (c : Cog) : (jumpDelayed a c).taskWrites = c.taskWrites := rfl
@[simp] theorem jumpDelayed_cur (a : RegAddr) (c : Cog) : (jumpDelayed a c).cur = c.cur := rfl
@[simp] theorem jumpDelayed_stalled (a : RegAddr) (c : Cog) : (jumpDelayed a c).stalled = c.stalled := rfl
@[simp] theorem jumpDelayed_held (a : RegAddr) (c : Cog) : (jumpDelayed a c).held = c.held := rfl
@[simp] theorem jumpDelayed_ptra (a : RegAddr) (c : Cog) : (jumpDelayed a c).ptra = c.ptra := rfl
@[simp] theorem jumpDelayed_ptrb (a : RegAddr) (c : Cog) : (jumpDelayed a c).ptrb = c.ptrb := rfl
@[simp] theorem jumpDelayed_spa (a : RegAddr) (c : Cog) : (jumpDelayed a c).spa = c.spa := rfl
@[simp] theorem jumpDelayed_spb (a : RegAddr) (c : Cog) : (jumpDelayed a c).spb = c.spb := rfl
@[simp] theorem jumpDelayed_inda (a : RegAddr) (c : Cog) : (jumpDelayed a c).inda = c.inda := rfl
@[simp] theorem jumpDelayed_indb (a : RegAddr) (c : Cog) : (jumpDelayed a c).indb = c.indb := rfl
@[simp] theorem jumpDelayed_quads (a : RegAddr) (c : Cog) : (jumpDelayed a c).quads = c.quads := rfl
@[simp] theorem jumpDelayed_qbase (a : RegAddr) (c : Cog) : (jumpDelayed a c).qbase = c.qbase := rfl
@[simp] theorem jumpDelayed_qvalid (a : RegAddr) (c : Cog) : (jumpDelayed a c).qvalid = c.qvalid := rfl
@[simp] theorem jumpDelayed_qtag (a : RegAddr) (c : Cog) : (jumpDelayed a c).qtag = c.qtag := rfl
@[simp] theorem jumpDelayed_fillAge (a : RegAddr) (c : Cog) : (jumpDelayed a c).fillAge = c.fillAge := rfl
@[simp] theorem jumpDelayed_mapAge (a : RegAddr) (c : Cog) : (jumpDelayed a c).mapAge = c.mapAge := rfl
@[simp] theorem jumpDelayed_acca (a : RegAddr) (c : Cog) : (jumpDelayed a c).acca = c.acca := rfl
@[simp] theorem jumpDelayed_accb (a : RegAddr) (c : Cog) : (jumpDelayed a c).accb = c.accb := rfl
@[simp] theorem jumpDelayed_accaPhase (a : RegAddr) (c : Cog) : (jumpDelayed a c).accaPhase = c.accaPhase := rfl
@[simp] theorem jumpDelayed_accbPhase (a : RegAddr) (c : Cog) : (jumpDelayed a c).accbPhase = c.accbPhase := rfl
@[simp] theorem jumpDelayed_cntl (a : RegAddr) (c : Cog) : (jumpDelayed a c).cntl = c.cntl := rfl
@[simp] theorem jumpDelayed_cntPhase (a : RegAddr) (c : Cog) : (jumpDelayed a c).cntPhase = c.cntPhase := rfl
@[simp] theorem jumpDelayed_math (a : RegAddr) (c : Cog) : (jumpDelayed a c).math = c.math := rfl
@[simp] theorem jumpDelayed_cogsel (a : RegAddr) (c : Cog) : (jumpDelayed a c).cogsel = c.cogsel := rfl
@[simp] theorem jumpDelayed_ctra (a : RegAddr) (c : Cog) : (jumpDelayed a c).ctra = c.ctra := rfl
@[simp] theorem jumpDelayed_ctrb (a : RegAddr) (c : Cog) : (jumpDelayed a c).ctrb = c.ctrb := rfl
@[simp] theorem jumpDelayed_cfgdac (a : RegAddr) (c : Cog) : (jumpDelayed a c).cfgdac = c.cfgdac := rfl
@[simp] theorem jumpDelayed_dacval (a : RegAddr) (c : Cog) : (jumpDelayed a c).dacval = c.dacval := rfl
@[simp] theorem jumpDelayed_video (a : RegAddr) (c : Cog) : (jumpDelayed a c).video = c.video := rfl
@[simp] theorem jumpDelayed_pixel (a : RegAddr) (c : Cog) : (jumpDelayed a c).pixel = c.pixel := rfl
@[simp] theorem jumpDelayed_xfr (a : RegAddr) (c : Cog) : (jumpDelayed a c).xfr = c.xfr := rfl
@[simp] theorem jumpDelayed_ser (a : RegAddr) (c : Cog) : (jumpDelayed a c).ser = c.ser := rfl
@[simp] theorem jumpDelayed_serTx (a : RegAddr) (c : Cog) : (jumpDelayed a c).serTx = c.serTx := rfl
@[simp] theorem jumpDelayed_map (a : RegAddr) (c : Cog) : (jumpDelayed a c).map = c.map := rfl
@[simp] theorem jumpDelayed_xch (a : RegAddr) (c : Cog) : (jumpDelayed a c).xch = c.xch := rfl
@[simp] theorem jumpDelayed_portsel (a : RegAddr) (c : Cog) : (jumpDelayed a c).portsel = c.portsel := rfl
@[simp] theorem jumpDelayed_por (a : RegAddr) (c : Cog) : (jumpDelayed a c).por = c.por := rfl
@[simp] theorem jumpDelayed_out (a : RegAddr) (c : Cog) : (jumpDelayed a c).out = c.out := rfl
@[simp] theorem jumpDelayed_dir (a : RegAddr) (c : Cog) : (jumpDelayed a c).dir = c.dir := rfl
@[simp] theorem jumpDelayed_skip (a : RegAddr) (c : Cog) : (jumpDelayed a c).skip = c.skip := rfl
@[simp] theorem jumpDelayed_skipTask (a : RegAddr) (c : Cog) : (jumpDelayed a c).skipTask = c.skipTask := rfl
@[simp] theorem jumpDelayed_rep (a : RegAddr) (c : Cog) : (jumpDelayed a c).rep = c.rep := rfl
@[simp] theorem jumpDelayed_nops (a : RegAddr) (c : Cog) : (jumpDelayed a c).nops = c.nops := rfl
@[simp] theorem jumpDelayed_wrote0 (a : RegAddr) (c : Cog) : (jumpDelayed a c).wrote0 = c.wrote0 := rfl
@[simp] theorem jumpDelayed_wrote1 (a : RegAddr) (c : Cog) : (jumpDelayed a c).wrote1 = c.wrote1 := rfl
@[simp] theorem jumpDelayed_wrote2 (a : RegAddr) (c : Cog) : (jumpDelayed a c).wrote2 = c.wrote2 := rfl

/-! ### quiet -/

@[simp] theorem quiet_run (c : Cog) : (quiet c).run = c.run := rfl
@[simp] theorem quiet_ram (c : Cog) : (quiet c).ram = c.ram := rfl
@[simp] theorem quiet_stk (c : Cog) : (quiet c).stk = c.stk := rfl
@[simp] theorem quiet_tasks (c : Cog) : (quiet c).tasks = c.tasks := rfl
@[simp] theorem quiet_task (c : Cog) : (quiet c).task = c.task := rfl
@[simp] theorem quiet_taskWrites (c : Cog) : (quiet c).taskWrites = c.taskWrites := rfl
@[simp] theorem quiet_cur (c : Cog) : (quiet c).cur = c.cur := rfl
@[simp] theorem quiet_stalled (c : Cog) : (quiet c).stalled = c.stalled := rfl
@[simp] theorem quiet_held (c : Cog) : (quiet c).held = none := rfl
@[simp] theorem quiet_ptra (c : Cog) : (quiet c).ptra = c.ptra := rfl
@[simp] theorem quiet_ptrb (c : Cog) : (quiet c).ptrb = c.ptrb := rfl
@[simp] theorem quiet_spa (c : Cog) : (quiet c).spa = c.spa := rfl
@[simp] theorem quiet_spb (c : Cog) : (quiet c).spb = c.spb := rfl
@[simp] theorem quiet_inda (c : Cog) : (quiet c).inda = c.inda := rfl
@[simp] theorem quiet_indb (c : Cog) : (quiet c).indb = c.indb := rfl
@[simp] theorem quiet_quads (c : Cog) : (quiet c).quads = c.quads := rfl
@[simp] theorem quiet_qbase (c : Cog) : (quiet c).qbase = c.qbase := rfl
@[simp] theorem quiet_qvalid (c : Cog) : (quiet c).qvalid = c.qvalid := rfl
@[simp] theorem quiet_qtag (c : Cog) : (quiet c).qtag = c.qtag := rfl
@[simp] theorem quiet_fillAge (c : Cog) : (quiet c).fillAge = c.fillAge := rfl
@[simp] theorem quiet_mapAge (c : Cog) : (quiet c).mapAge = c.mapAge := rfl
@[simp] theorem quiet_acca (c : Cog) : (quiet c).acca = c.acca := rfl
@[simp] theorem quiet_accb (c : Cog) : (quiet c).accb = c.accb := rfl
@[simp] theorem quiet_cntl (c : Cog) : (quiet c).cntl = c.cntl := rfl
@[simp] theorem quiet_math (c : Cog) : (quiet c).math = c.math := rfl
@[simp] theorem quiet_cogsel (c : Cog) : (quiet c).cogsel = c.cogsel := rfl
@[simp] theorem quiet_ctra (c : Cog) : (quiet c).ctra = c.ctra := rfl
@[simp] theorem quiet_ctrb (c : Cog) : (quiet c).ctrb = c.ctrb := rfl
@[simp] theorem quiet_cfgdac (c : Cog) : (quiet c).cfgdac = c.cfgdac := rfl
@[simp] theorem quiet_dacval (c : Cog) : (quiet c).dacval = c.dacval := rfl
@[simp] theorem quiet_video (c : Cog) : (quiet c).video = c.video := rfl
@[simp] theorem quiet_pixel (c : Cog) : (quiet c).pixel = c.pixel := rfl
@[simp] theorem quiet_xfr (c : Cog) : (quiet c).xfr = c.xfr := rfl
@[simp] theorem quiet_ser (c : Cog) : (quiet c).ser = c.ser := rfl
@[simp] theorem quiet_serTx (c : Cog) : (quiet c).serTx = c.serTx := rfl
@[simp] theorem quiet_map (c : Cog) : (quiet c).map = c.map := rfl
@[simp] theorem quiet_xch (c : Cog) : (quiet c).xch = c.xch := rfl
@[simp] theorem quiet_portsel (c : Cog) : (quiet c).portsel = c.portsel := rfl
@[simp] theorem quiet_por (c : Cog) : (quiet c).por = c.por := rfl
@[simp] theorem quiet_out (c : Cog) : (quiet c).out = c.out := rfl
@[simp] theorem quiet_dir (c : Cog) : (quiet c).dir = c.dir := rfl
@[simp] theorem quiet_skip (c : Cog) : (quiet c).skip = c.skip := rfl
@[simp] theorem quiet_skipTask (c : Cog) : (quiet c).skipTask = c.skipTask := rfl
@[simp] theorem quiet_rep (c : Cog) : (quiet c).rep = c.rep := rfl
@[simp] theorem quiet_nops (c : Cog) : (quiet c).nops = c.nops := rfl
@[simp] theorem quiet_wrote0 (c : Cog) : (quiet c).wrote0 = c.wrote0 := rfl
@[simp] theorem quiet_wrote1 (c : Cog) : (quiet c).wrote1 = c.wrote1 := rfl
@[simp] theorem quiet_wrote2 (c : Cog) : (quiet c).wrote2 = c.wrote2 := rfl

/-! ### beginSlot -/

/-- Each task of `countAll` is the task counted down. -/
@[simp] theorem countAll_rd (b : Bank 2 TaskRegs) (k : TaskId) :
    (countAll b).rd k = countDown (b.rd k) := by
  obtain rfl | rfl | rfl | rfl : k = 0#2 ∨ k = 1#2 ∨ k = 2#2 ∨ k = 3#2 := by
    revert k; decide
  all_goals rfl

@[simp] theorem beginSlot_tasks (c : Cog) :
    (beginSlot c).tasks = countAll (c.tasks.wr (slotTask c) (fireDelayed (c.tasks.rd (slotTask c)))) := rfl
@[simp] theorem beginSlot_run (c : Cog) : (beginSlot c).run = c.run := rfl
@[simp] theorem beginSlot_ram (c : Cog) : (beginSlot c).ram = c.ram := rfl
@[simp] theorem beginSlot_stk (c : Cog) : (beginSlot c).stk = c.stk := rfl
@[simp] theorem beginSlot_ptra (c : Cog) : (beginSlot c).ptra = c.ptra := rfl
@[simp] theorem beginSlot_ptrb (c : Cog) : (beginSlot c).ptrb = c.ptrb := rfl
@[simp] theorem beginSlot_spa (c : Cog) : (beginSlot c).spa = c.spa := rfl
@[simp] theorem beginSlot_spb (c : Cog) : (beginSlot c).spb = c.spb := rfl
@[simp] theorem beginSlot_inda (c : Cog) : (beginSlot c).inda = c.inda := rfl
@[simp] theorem beginSlot_indb (c : Cog) : (beginSlot c).indb = c.indb := rfl
@[simp] theorem beginSlot_quads (c : Cog) : (beginSlot c).quads = c.quads := rfl
@[simp] theorem beginSlot_qbase (c : Cog) : (beginSlot c).qbase = c.qbase := rfl
@[simp] theorem beginSlot_qvalid (c : Cog) : (beginSlot c).qvalid = c.qvalid := rfl
@[simp] theorem beginSlot_qtag (c : Cog) : (beginSlot c).qtag = c.qtag := rfl
@[simp] theorem beginSlot_acca (c : Cog) : (beginSlot c).acca = c.acca := rfl
@[simp] theorem beginSlot_accb (c : Cog) : (beginSlot c).accb = c.accb := rfl
@[simp] theorem beginSlot_accaPhase (c : Cog) : (beginSlot c).accaPhase = c.accaPhase := rfl
@[simp] theorem beginSlot_accbPhase (c : Cog) : (beginSlot c).accbPhase = c.accbPhase := rfl
@[simp] theorem beginSlot_cntl (c : Cog) : (beginSlot c).cntl = c.cntl := rfl
@[simp] theorem beginSlot_cntPhase (c : Cog) : (beginSlot c).cntPhase = c.cntPhase := rfl
@[simp] theorem beginSlot_math (c : Cog) : (beginSlot c).math = c.math := rfl
@[simp] theorem beginSlot_cogsel (c : Cog) : (beginSlot c).cogsel = c.cogsel := rfl
@[simp] theorem beginSlot_ctra (c : Cog) : (beginSlot c).ctra = c.ctra := rfl
@[simp] theorem beginSlot_ctrb (c : Cog) : (beginSlot c).ctrb = c.ctrb := rfl
@[simp] theorem beginSlot_cfgdac (c : Cog) : (beginSlot c).cfgdac = c.cfgdac := rfl
@[simp] theorem beginSlot_dacval (c : Cog) : (beginSlot c).dacval = c.dacval := rfl
@[simp] theorem beginSlot_video (c : Cog) : (beginSlot c).video = c.video := rfl
@[simp] theorem beginSlot_pixel (c : Cog) : (beginSlot c).pixel = c.pixel := rfl
@[simp] theorem beginSlot_xfr (c : Cog) : (beginSlot c).xfr = c.xfr := rfl
@[simp] theorem beginSlot_ser (c : Cog) : (beginSlot c).ser = c.ser := rfl
@[simp] theorem beginSlot_serTx (c : Cog) : (beginSlot c).serTx = c.serTx := rfl
@[simp] theorem beginSlot_map (c : Cog) : (beginSlot c).map = c.map := rfl
@[simp] theorem beginSlot_xch (c : Cog) : (beginSlot c).xch = c.xch := rfl
@[simp] theorem beginSlot_portsel (c : Cog) : (beginSlot c).portsel = c.portsel := rfl
@[simp] theorem beginSlot_por (c : Cog) : (beginSlot c).por = c.por := rfl
@[simp] theorem beginSlot_out (c : Cog) : (beginSlot c).out = c.out := rfl
@[simp] theorem beginSlot_dir (c : Cog) : (beginSlot c).dir = c.dir := rfl
@[simp] theorem beginSlot_skip (c : Cog) : (beginSlot c).skip = c.skip := rfl
@[simp] theorem beginSlot_skipTask (c : Cog) : (beginSlot c).skipTask = c.skipTask := rfl
@[simp] theorem beginSlot_rep (c : Cog) : (beginSlot c).rep = c.rep := rfl
@[simp] theorem beginSlot_nops (c : Cog) : (beginSlot c).nops = c.nops := rfl
@[simp] theorem beginSlot_held (c : Cog) : (beginSlot c).held = c.held := rfl

/-! ### cacheFill -/

@[simp] theorem cacheFill_run (m : List Host.Cell) (ea : HubAddress) (c : Cog) : (cacheFill m ea c).run = c.run := rfl
@[simp] theorem cacheFill_ram (m : List Host.Cell) (ea : HubAddress) (c : Cog) : (cacheFill m ea c).ram = c.ram := rfl
@[simp] theorem cacheFill_stk (m : List Host.Cell) (ea : HubAddress) (c : Cog) : (cacheFill m ea c).stk = c.stk := rfl
@[simp] theorem cacheFill_tasks (m : List Host.Cell) (ea : HubAddress) (c : Cog) : (cacheFill m ea c).tasks = c.tasks := rfl
@[simp] theorem cacheFill_task (m : List Host.Cell) (ea : HubAddress) (c : Cog) : (cacheFill m ea c).task = c.task := rfl
@[simp] theorem cacheFill_taskWrites (m : List Host.Cell) (ea : HubAddress) (c : Cog) : (cacheFill m ea c).taskWrites = c.taskWrites := rfl
@[simp] theorem cacheFill_cur (m : List Host.Cell) (ea : HubAddress) (c : Cog) : (cacheFill m ea c).cur = c.cur := rfl
@[simp] theorem cacheFill_stalled (m : List Host.Cell) (ea : HubAddress) (c : Cog) : (cacheFill m ea c).stalled = c.stalled := rfl
@[simp] theorem cacheFill_held (m : List Host.Cell) (ea : HubAddress) (c : Cog) : (cacheFill m ea c).held = c.held := rfl
@[simp] theorem cacheFill_ptra (m : List Host.Cell) (ea : HubAddress) (c : Cog) : (cacheFill m ea c).ptra = c.ptra := rfl
@[simp] theorem cacheFill_ptrb (m : List Host.Cell) (ea : HubAddress) (c : Cog) : (cacheFill m ea c).ptrb = c.ptrb := rfl
@[simp] theorem cacheFill_spa (m : List Host.Cell) (ea : HubAddress) (c : Cog) : (cacheFill m ea c).spa = c.spa := rfl
@[simp] theorem cacheFill_spb (m : List Host.Cell) (ea : HubAddress) (c : Cog) : (cacheFill m ea c).spb = c.spb := rfl
@[simp] theorem cacheFill_inda (m : List Host.Cell) (ea : HubAddress) (c : Cog) : (cacheFill m ea c).inda = c.inda := rfl
@[simp] theorem cacheFill_indb (m : List Host.Cell) (ea : HubAddress) (c : Cog) : (cacheFill m ea c).indb = c.indb := rfl
@[simp] theorem cacheFill_qbase (m : List Host.Cell) (ea : HubAddress) (c : Cog) : (cacheFill m ea c).qbase = c.qbase := rfl
@[simp] theorem cacheFill_mapAge (m : List Host.Cell) (ea : HubAddress) (c : Cog) : (cacheFill m ea c).mapAge = c.mapAge := rfl
@[simp] theorem cacheFill_acca (m : List Host.Cell) (ea : HubAddress) (c : Cog) : (cacheFill m ea c).acca = c.acca := rfl
@[simp] theorem cacheFill_accb (m : List Host.Cell) (ea : HubAddress) (c : Cog) : (cacheFill m ea c).accb = c.accb := rfl
@[simp] theorem cacheFill_accaPhase (m : List Host.Cell) (ea : HubAddress) (c : Cog) : (cacheFill m ea c).accaPhase = c.accaPhase := rfl
@[simp] theorem cacheFill_accbPhase (m : List Host.Cell) (ea : HubAddress) (c : Cog) : (cacheFill m ea c).accbPhase = c.accbPhase := rfl
@[simp] theorem cacheFill_cntl (m : List Host.Cell) (ea : HubAddress) (c : Cog) : (cacheFill m ea c).cntl = c.cntl := rfl
@[simp] theorem cacheFill_cntPhase (m : List Host.Cell) (ea : HubAddress) (c : Cog) : (cacheFill m ea c).cntPhase = c.cntPhase := rfl
@[simp] theorem cacheFill_math (m : List Host.Cell) (ea : HubAddress) (c : Cog) : (cacheFill m ea c).math = c.math := rfl
@[simp] theorem cacheFill_cogsel (m : List Host.Cell) (ea : HubAddress) (c : Cog) : (cacheFill m ea c).cogsel = c.cogsel := rfl
@[simp] theorem cacheFill_ctra (m : List Host.Cell) (ea : HubAddress) (c : Cog) : (cacheFill m ea c).ctra = c.ctra := rfl
@[simp] theorem cacheFill_ctrb (m : List Host.Cell) (ea : HubAddress) (c : Cog) : (cacheFill m ea c).ctrb = c.ctrb := rfl
@[simp] theorem cacheFill_cfgdac (m : List Host.Cell) (ea : HubAddress) (c : Cog) : (cacheFill m ea c).cfgdac = c.cfgdac := rfl
@[simp] theorem cacheFill_dacval (m : List Host.Cell) (ea : HubAddress) (c : Cog) : (cacheFill m ea c).dacval = c.dacval := rfl
@[simp] theorem cacheFill_video (m : List Host.Cell) (ea : HubAddress) (c : Cog) : (cacheFill m ea c).video = c.video := rfl
@[simp] theorem cacheFill_pixel (m : List Host.Cell) (ea : HubAddress) (c : Cog) : (cacheFill m ea c).pixel = c.pixel := rfl
@[simp] theorem cacheFill_xfr (m : List Host.Cell) (ea : HubAddress) (c : Cog) : (cacheFill m ea c).xfr = c.xfr := rfl
@[simp] theorem cacheFill_ser (m : List Host.Cell) (ea : HubAddress) (c : Cog) : (cacheFill m ea c).ser = c.ser := rfl
@[simp] theorem cacheFill_serTx (m : List Host.Cell) (ea : HubAddress) (c : Cog) : (cacheFill m ea c).serTx = c.serTx := rfl
@[simp] theorem cacheFill_map (m : List Host.Cell) (ea : HubAddress) (c : Cog) : (cacheFill m ea c).map = c.map := rfl
@[simp] theorem cacheFill_xch (m : List Host.Cell) (ea : HubAddress) (c : Cog) : (cacheFill m ea c).xch = c.xch := rfl
@[simp] theorem cacheFill_portsel (m : List Host.Cell) (ea : HubAddress) (c : Cog) : (cacheFill m ea c).portsel = c.portsel := rfl
@[simp] theorem cacheFill_por (m : List Host.Cell) (ea : HubAddress) (c : Cog) : (cacheFill m ea c).por = c.por := rfl
@[simp] theorem cacheFill_out (m : List Host.Cell) (ea : HubAddress) (c : Cog) : (cacheFill m ea c).out = c.out := rfl
@[simp] theorem cacheFill_dir (m : List Host.Cell) (ea : HubAddress) (c : Cog) : (cacheFill m ea c).dir = c.dir := rfl
@[simp] theorem cacheFill_skip (m : List Host.Cell) (ea : HubAddress) (c : Cog) : (cacheFill m ea c).skip = c.skip := rfl
@[simp] theorem cacheFill_skipTask (m : List Host.Cell) (ea : HubAddress) (c : Cog) : (cacheFill m ea c).skipTask = c.skipTask := rfl
@[simp] theorem cacheFill_rep (m : List Host.Cell) (ea : HubAddress) (c : Cog) : (cacheFill m ea c).rep = c.rep := rfl
@[simp] theorem cacheFill_nops (m : List Host.Cell) (ea : HubAddress) (c : Cog) : (cacheFill m ea c).nops = c.nops := rfl
@[simp] theorem cacheFill_wrote0 (m : List Host.Cell) (ea : HubAddress) (c : Cog) : (cacheFill m ea c).wrote0 = c.wrote0 := rfl
@[simp] theorem cacheFill_wrote1 (m : List Host.Cell) (ea : HubAddress) (c : Cog) : (cacheFill m ea c).wrote1 = c.wrote1 := rfl
@[simp] theorem cacheFill_wrote2 (m : List Host.Cell) (ea : HubAddress) (c : Cog) : (cacheFill m ea c).wrote2 = c.wrote2 := rfl

end Machine
end Sys2Proof
end

