-- ==== Sys2Proof/Laws/Registers.lean ====
section
/-!
SUPPORT. What a register write does, said once: the RAM register, the QUAD over it, or the window of
pins; and that it does nothing else.
-/
namespace Sys2Proof.Machine

/-- A bit of a port window set (R615). -/
theorem setPortWindow_bit (x : BitVec 128) (p : BitVec 2) (v : Word) (q : BitVec 7) :
    (setPortWindow x p v).getLsbD q.toNat =
      if p = q.extractLsb' 5 2 then v.getLsbD (q.toNat % 32) else x.getLsbD q.toNat := by
  have hq := q.isLt
  have hp := p.isLt
  have e : p = q.extractLsb' 5 2 ↔ p.toNat = q.toNat / 32 := by
    rw [← BitVec.toNat_inj, BitVec.extractLsb'_toNat]
    simp only [Nat.shiftRight_eq_div_pow]
    norm_num
    omega
  rw [if_congr e rfl rfl]
  have h1 : ((BitVec.allOnes 32).setWidth 128 <<< (32 * p.toNat)).getLsbD q.toNat =
      decide (p.toNat = q.toNat / 32) := by
    simp only [BitVec.getLsbD_shiftLeft, BitVec.getLsbD_setWidth, BitVec.getLsbD_allOnes]
    by_cases h : p.toNat = q.toNat / 32
    · simp [h, hq]; omega
    · simp [h]; omega
  have h2 : (v.setWidth 128 <<< (32 * p.toNat)).getLsbD q.toNat =
      (decide (p.toNat = q.toNat / 32) && v.getLsbD (q.toNat % 32)) := by
    simp only [BitVec.getLsbD_shiftLeft, BitVec.getLsbD_setWidth]
    by_cases h : p.toNat = q.toNat / 32
    · have h3 : q.toNat - 32 * p.toNat = q.toNat % 32 := by omega
      rw [h3]
      simp [h, hq, show ¬ q.toNat < 32 * (q.toNat / 32) by omega, show q.toNat % 32 < 128 by omega]
    · by_cases h4 : q.toNat < 32 * p.toNat
      · simp [h, h4]
      · have h5 : 32 ≤ q.toNat - 32 * p.toNat := by omega
        simp [h, BitVec.getLsbD_of_ge v _ h5]
  unfold setPortWindow
  rw [BitVec.getLsbD_or, BitVec.getLsbD_and, BitVec.getLsbD_not, h1, h2]
  split_ifs with h <;> simp [h, hq]

/-- A register write is what `RegisterWritten` says (R22, R36, R615). -/
theorem writeReg_written (c : Cog) (a : RegAddr) (v : Word) :
    RegisterWritten c (writeReg c a v) a v := by
  have q1 : (writeQuadOver c a v).ram = c.ram := by unfold writeQuadOver; split <;> rfl
  have q2 : (writeQuadOver c a v).out = c.out := by unfold writeQuadOver; split <;> rfl
  have q3 : (writeQuadOver c a v).dir = c.dir := by unfold writeQuadOver; split <;> rfl
  have q4 : (writeQuadOver c a v).por = c.por := by unfold writeQuadOver; split <;> rfl
  have q5 : ∀ k, (writeQuadOver c a v).quads.rd k =
      if quadIndex c a = some k then v else c.quads.rd k := by
    intro k
    unfold writeQuadOver
    split
    · next j hj => simp only [Bank.rd_wr, hj, Option.some.injEq, eq_comm]
    · next hj => simp [hj]
  unfold writeReg writeSpecial
  by_cases hs : isSpecial a = true <;> by_cases hd : a.getLsbD 2 = true <;>
    constructor <;> intros <;>
    simp_all [windowHit, setPortWindow_bit, Bank.rd_wr]

theorem writeReg_rest (c : Cog) (a : RegAddr) (v : Word) : (writeReg c a v).rest = c.rest := by
  unfold writeReg writeSpecial writeQuadOver
  split <;> split <;> try split
  all_goals rfl

end Sys2Proof.Machine
end

