-- ==== Sys2Proof/Laws/Effects.lean ====
section
/-!
SUPPORT. What the shared end of every instruction does, said once: `did_main` gives the whole effect of
"references done, PC moved on, other state changed by `f`, result, flags, branch". The meanings of
nearly all instructions are instances of its left side.
-/
namespace Sys2Proof.Machine

/-- `f` changes nothing that `did_main` speaks of, and does not look at it. For a concrete `f` every
clause holds by `rfl`. -/
structure Benign (f : Cog → Cog) (d x : Reg) (c : Cog) : Prop where
  tasks  : (f (enter d x c)).tasks = (enter d x c).tasks
  cur    : (f (enter d x c)).cur = c.cur
  rep    : (f (enter d x c)).rep = (enter d x c).rep
  ram    : (f (enter d x c)).ram = (f (quiet c)).ram
  quads  : (f (enter d x c)).quads = (f (quiet c)).quads
  out    : (f (enter d x c)).out = (f (quiet c)).out
  dir    : (f (enter d x c)).dir = (f (quiet c)).dir
  wrote0 : (f (enter d x c)).wrote0 = (f (quiet c)).wrote0
  qbase  : (f (enter d x c)).qbase = (f (quiet c)).qbase
  por    : (f (enter d x c)).por = (f (quiet c)).por
  inda   : (f (enter d x c)).inda = indAfter (f (quiet c)).inda (modFor .a d ||| modFor .a x)
  indb   : (f (enter d x c)).indb = indAfter (f (quiet c)).indb (modFor .b d ||| modFor .b x)
  rest   : (f (enter d x c)).rest = (f (quiet c)).rest

theorem benign_id (d x : Reg) (c : Cog) : Benign id d x c := by constructor <;> rfl

/-- `RegisterWritten` does not look at the fields outside the ones it speaks of. -/
theorem RegisterWritten.congr {b b' c : Cog} {a : RegAddr} {v : Word} (h : RegisterWritten b c a v)
    (ram : b.ram = b'.ram) (quads : b.quads = b'.quads) (out : b.out = b'.out) (dir : b.dir = b'.dir)
    (qbase : b.qbase = b'.qbase) (por : b.por = b'.por) : RegisterWritten b' c a v := by
  have hq : quadIndex b' a = quadIndex b a := by simp [quadIndex, quadMapped, qbase]
  have hw : ∀ dirs p, windowHit b' dirs a p = windowHit b dirs a p := by simp [windowHit, por]
  constructor
  · intro k; rw [h.ram, ram]
  · intro k; rw [h.quads, hq, quads]
  · intro p; rw [h.out, hw, out]
  · intro p; rw [h.dir, hw, dir]
  · exact h.note

/-! ### The pieces of the end of an instruction, field by field -/

theorem tasks_writeD (r : Bool) (a : RegAddr) (v : Word) (c : Cog) :
    (writeD r a v c).tasks = c.tasks := by
  unfold writeD writeReg writeSpecial writeQuadOver; repeat' split
  all_goals rfl

theorem cur_writeD (r : Bool) (a : RegAddr) (v : Word) (c : Cog) : (writeD r a v c).cur = c.cur := by
  unfold writeD writeReg writeSpecial writeQuadOver; repeat' split
  all_goals rfl

theorem rep_writeD (r : Bool) (a : RegAddr) (v : Word) (c : Cog) : (writeD r a v c).rep = c.rep := by
  unfold writeD writeReg writeSpecial writeQuadOver; repeat' split
  all_goals rfl

theorem inda_writeD (r : Bool) (a : RegAddr) (v : Word) (c : Cog) :
    (writeD r a v c).inda = c.inda := by
  unfold writeD writeReg writeSpecial writeQuadOver; repeat' split
  all_goals rfl

theorem indb_writeD (r : Bool) (a : RegAddr) (v : Word) (c : Cog) :
    (writeD r a v c).indb = c.indb := by
  unfold writeD writeReg writeSpecial writeQuadOver; repeat' split
  all_goals rfl

theorem rest_writeD (r : Bool) (a : RegAddr) (v : Word) (c : Cog) :
    (writeD r a v c).rest = c.rest := by
  unfold writeD writeReg writeSpecial writeQuadOver; repeat' split
  all_goals rfl

/-- A COG with the flags of the executing task set where the two bits say so, then the branch. -/
def flagsAndBranch (z zv w wv b delayed : Bool) (target : RegAddr) (c : Cog) : Cog :=
  branchIf b delayed target (writeC w wv (writeZ z zv c))

/-- The task record that results. -/
def taskAfter (z zv w wv b delayed : Bool) (target : RegAddr) (t : TaskRegs) : TaskRegs :=
  { z := if z then zv else t.z
    c := if w then wv else t.c
    pc := if b && !delayed then target else t.pc
    flush := if b && !delayed then 3 else t.flush
    delayed := if b then (if delayed then t.delayed ++ [⟨target, 3⟩] else []) else t.delayed }

theorem flagsAndBranch_eq (z zv w wv b delayed : Bool) (target : RegAddr) (c : Cog) :
    flagsAndBranch z zv w wv b delayed target c =
      c.setTsk (taskAfter z zv w wv b delayed target c.tsk) := by
  cases z <;> cases w <;> cases b <;> cases delayed <;>
    first
    | exact (Cog.setTsk_self c).symm
    | simp [flagsAndBranch, taskAfter, branchIf, jump, jumpTask, jumpDelayed, writeC, writeZ,
        Cog.setTsk, Cog.tsk]

/-- The effect of the end of an instruction, whole: see the head of the file. -/
theorem did_main {f : Cog → Cog} {d x : Reg} {s : State} (hf : Benign f d x s.cog)
    (r z zv w wv b delayed : Bool) (a target : RegAddr) (v : Word) :
    Did { write := if r then some (a, v) else none
          z := if z then some zv else none
          c := if w then some wv else none
          branch := if b then some (delayed, target) else none
          cog := f } d x s
      (s.setCog (flagsAndBranch z zv w wv b delayed target (writeD r a v (f (enter d x s.cog))))) := by
  rw [flagsAndBranch_eq]
  have tasks : (writeD r a v (f (enter d x s.cog))).tasks =
      s.cog.tasks.wr s.cog.cur { s.cog.tsk with pc := (nextPc s.cog).1 } := by
    rw [tasks_writeD, hf.tasks]; rfl
  have cur : (writeD r a v (f (enter d x s.cog))).cur = s.cog.cur := by rw [cur_writeD, hf.cur]
  have tsk : (writeD r a v (f (enter d x s.cog))).tsk =
      { s.cog.tsk with pc := (nextPc s.cog).1 } := by
    unfold Cog.tsk; rw [tasks, cur, Bank.rd_wr_self]; rfl
  refine
    { mem := fun _ => rfl, locks := rfl, clk := rfl, cnt := rfl, pinCfg := rfl, inputs := rfl
      turn := rfl, tick := rfl, others := fun n hn => State.setCog_other _ _ hn
      regs := ?_, flow := ?_, inda := ?_, indb := ?_, rest := ?_ }
  · rw [State.setCog_cog]
    cases r
    · exact ⟨hf.ram, hf.quads, hf.out, hf.dir, hf.wrote0⟩
    · have h := (writeReg_written (f (enter d x s.cog)) a v).congr hf.ram hf.quads hf.out hf.dir
        hf.qbase hf.por
      exact ⟨h.ram, h.quads, h.out, h.dir, h.note⟩
  · rw [State.setCog_cog, tsk]
    constructor
    · intro k hk
      rw [Cog.setTsk_tasks, tasks, cur, Bank.rd_wr_ne _ _ hk, Bank.rd_wr_ne _ _ hk]
    · simp only [Cog.flagZ, Cog.setTsk_tsk]; cases z <;> rfl
    · simp only [Cog.flagC, Cog.setTsk_tsk]; cases w <;> rfl
    · simp only [Cog.pcNow, Cog.setTsk_tsk]; cases b <;> cases delayed <;> rfl
    · simp only [Cog.setTsk_tsk]; cases b <;> cases delayed <;> rfl
    · simp only [Cog.setTsk_tsk]; cases b <;> cases delayed <;> rfl
    · show (writeD r a v (f (enter d x s.cog))).rep = _
      rw [rep_writeD, hf.rep]; rfl
  · rw [State.setCog_cog]
    show (writeD r a v (f (enter d x s.cog))).inda = _
    rw [inda_writeD, hf.inda]
  · rw [State.setCog_cog]
    show (writeD r a v (f (enter d x s.cog))).indb = _
    rw [indb_writeD, hf.indb]
  · rw [State.setCog_cog]
    show (writeD r a v (f (enter d x s.cog))).rest = _
    rw [rest_writeD, hf.rest]

/-! ### The frames of the operand forms, once an instruction is ready -/

theorem runDS_ready {reads : Bool} {cond : Cond} {d : Reg} {x : Src} {s : State}
    (h : readyDS reads cond d x s) (k : RegAddr → Word → Word → State → Result) :
    runDS reads cond d x s k =
      k (addrOf s d) (valueOf s d) (sourceOf s x) (s.setCog (enter d (srcReg x) s.cog)) := by
  obtain ⟨h1, h2, h3⟩ := h
  simp [runDS, h1, h2, h3, addrOf, valueOf, sourceOf]

theorem runD_ready {reads : Bool} {cond : Cond} {d : Reg} {s : State} (h : readyD reads cond d s)
    (k : RegAddr → Word → State → Result) :
    runD reads cond d s k = k (addrOf s d) (valueOf s d) (s.setCog (enter d noReg s.cog)) := by
  obtain ⟨h1, h2⟩ := h
  simp only [runD, h1, h2, addrOf, valueOf]
  rfl

theorem runDn_ready {w : Nat} {cond : Cond} {d : DImm} {s : State} (h : readyDn cond d s)
    (k : Word → State → Result) :
    runDn w cond d s k = k (numberOf w s d) (s.setCog (enter (dimmReg d) noReg s.cog)) := by
  obtain ⟨h1, h2⟩ := h
  simp [runDn, h1, h2, numberOf]

theorem runHub_ready {k : Nat} {reads : Bool} {cond : Cond} {d : Reg} {x : HubOperand} {s : State}
    (h : readyHub reads cond d x s) (body : HubAddress → RegAddr → Word → State → Result) :
    runHub k reads cond d x s body =
      body (hubAddr k s.inputs s.cog x) (addrOf s d) (valueOf s d)
        (s.setCog (hubAfter k x (enter d (hubReg x) s.cog))) := by
  obtain ⟨h1, h2, h3⟩ := h
  simp [runHub, h1, h2, h3, addrOf, valueOf]

theorem runQuad_ready {cond : Cond} {x : HubOperand} {s : State} (h : readyQuad cond x s)
    (body : HubAddress → State → Result) :
    runQuad cond x s body =
      body (hubAddr 4 s.inputs s.cog x)
        (s.setCog (hubAfter 4 x (enter (hubReg x) noReg s.cog))) := by
  obtain ⟨h1, h2⟩ := h
  simp [runQuad, h1, h2]

theorem runPlain_ready {cond : Cond} {s : State} (h : readyPlain cond s) (k : State → Result) :
    runPlain cond s k = k (s.setCog (enter noReg noReg s.cog)) := by
  have h1 : executes s.cog cond false = true := h
  simp only [runPlain, h1]
  rfl

end Sys2Proof.Machine
end

