-- ==== Sys2Proof/Laws/Exec.lean ====
section
/-!
SUPPORT. What `exec` does with each constructor: its meaning, and no other. A proof rewrites with these
in place of unfolding the whole dispatch.
-/
namespace Sys2Proof.Machine

theorem exec_wrbyte (o) (s : State) : exec (.wrbyte o) s = execWrbyte o s := rfl
theorem exec_rdbyte (o) (s : State) : exec (.rdbyte o) s = execRdbyte o s := rfl
theorem exec_rdbytec (o) (s : State) : exec (.rdbytec o) s = execRdbytec o s := rfl
theorem exec_wrword (o) (s : State) : exec (.wrword o) s = execWrword o s := rfl
theorem exec_rdword (o) (s : State) : exec (.rdword o) s = execRdword o s := rfl
theorem exec_rdwordc (o) (s : State) : exec (.rdwordc o) s = execRdwordc o s := rfl
theorem exec_wrlong (o) (s : State) : exec (.wrlong o) s = execWrlong o s := rfl
theorem exec_rdlong (o) (s : State) : exec (.rdlong o) s = execRdlong o s := rfl
theorem exec_rdlongc (o) (s : State) : exec (.rdlongc o) s = execRdlongc o s := rfl
theorem exec_coginit (o) (s : State) : exec (.coginit o) s = execCoginit o s := rfl
theorem exec_clkset (o) (s : State) : exec (.clkset o) s = execClkset o s := rfl
theorem exec_cogid (o) (s : State) : exec (.cogid o) s = execCogid o s := rfl
theorem exec_cogstop (o) (s : State) : exec (.cogstop o) s = execCogstop o s := rfl
theorem exec_locknew (o) (s : State) : exec (.locknew o) s = execLocknew o s := rfl
theorem exec_lockret (o) (s : State) : exec (.lockret o) s = execLockret o s := rfl
theorem exec_lockset (o) (s : State) : exec (.lockset o) s = execLockset o s := rfl
theorem exec_lockclr (o) (s : State) : exec (.lockclr o) s = execLockclr o s := rfl
theorem exec_cachex (o) (s : State) : exec (.cachex o) s = execCachex o s := rfl
theorem exec_clracca (o) (s : State) : exec (.clracca o) s = execClracca o s := rfl
theorem exec_clraccb (o) (s : State) : exec (.clraccb o) s = execClraccb o s := rfl
theorem exec_clraccs (o) (s : State) : exec (.clraccs o) s = execClraccs o s := rfl
theorem exec_fitacca (o) (s : State) : exec (.fitacca o) s = execFitacca o s := rfl
theorem exec_fitaccb (o) (s : State) : exec (.fitaccb o) s = execFitaccb o s := rfl
theorem exec_fitaccs (o) (s : State) : exec (.fitaccs o) s = execFitaccs o s := rfl
theorem exec_sndser (o) (s : State) : exec (.sndser o) s = execSndser o s := rfl
theorem exec_rcvser (o) (s : State) : exec (.rcvser o) s = execRcvser o s := rfl
theorem exec_pushzc (o) (s : State) : exec (.pushzc o) s = execPushzc o s := rfl
theorem exec_popzc (o) (s : State) : exec (.popzc o) s = execPopzc o s := rfl
theorem exec_subcnt (o) (s : State) : exec (.subcnt o) s = execSubcnt o s := rfl
theorem exec_getcnt (o) (s : State) : exec (.getcnt o) s = execGetcnt o s := rfl
theorem exec_getacca (o) (s : State) : exec (.getacca o) s = execGetacca o s := rfl
theorem exec_getaccb (o) (s : State) : exec (.getaccb o) s = execGetaccb o s := rfl
theorem exec_getlfsr (o) (s : State) : exec (.getlfsr o) s = execGetlfsr o s := rfl
theorem exec_gettops (o) (s : State) : exec (.gettops o) s = execGettops o s := rfl
theorem exec_getptra (o) (s : State) : exec (.getptra o) s = execGetptra o s := rfl
theorem exec_getptrb (o) (s : State) : exec (.getptrb o) s = execGetptrb o s := rfl
theorem exec_getpix (o) (s : State) : exec (.getpix o) s = execGetpix o s := rfl
theorem exec_chkspd (o) (s : State) : exec (.chkspd o) s = execChkspd o s := rfl
theorem exec_getspd (o) (s : State) : exec (.getspd o) s = execGetspd o s := rfl
theorem exec_chkspa (o) (s : State) : exec (.chkspa o) s = execChkspa o s := rfl
theorem exec_getspa (o) (s : State) : exec (.getspa o) s = execGetspa o s := rfl
theorem exec_chkspb (o) (s : State) : exec (.chkspb o) s = execChkspb o s := rfl
theorem exec_getspb (o) (s : State) : exec (.getspb o) s = execGetspb o s := rfl
theorem exec_popar (o) (s : State) : exec (.popar o) s = execPopar o s := rfl
theorem exec_popbr (o) (s : State) : exec (.popbr o) s = execPopbr o s := rfl
theorem exec_popa (o) (s : State) : exec (.popa o) s = execPopa o s := rfl
theorem exec_popb (o) (s : State) : exec (.popb o) s = execPopb o s := rfl
theorem exec_reta (o) (s : State) : exec (.reta o) s = execReta o s := rfl
theorem exec_retb (o) (s : State) : exec (.retb o) s = execRetb o s := rfl
theorem exec_retad (o) (s : State) : exec (.retad o) s = execRetad o s := rfl
theorem exec_retbd (o) (s : State) : exec (.retbd o) s = execRetbd o s := rfl
theorem exec_decod5 (o) (s : State) : exec (.decod5 o) s = execDecod5 o s := rfl
theorem exec_decod4 (o) (s : State) : exec (.decod4 o) s = execDecod4 o s := rfl
theorem exec_decod3 (o) (s : State) : exec (.decod3 o) s = execDecod3 o s := rfl
theorem exec_decod2 (o) (s : State) : exec (.decod2 o) s = execDecod2 o s := rfl
theorem exec_blmask (o) (s : State) : exec (.blmask o) s = execBlmask o s := rfl
theorem exec_not (o) (s : State) : exec (.not o) s = execNot o s := rfl
theorem exec_onecnt (o) (s : State) : exec (.onecnt o) s = execOnecnt o s := rfl
theorem exec_zercnt (o) (s : State) : exec (.zercnt o) s = execZercnt o s := rfl
theorem exec_incpat (o) (s : State) : exec (.incpat o) s = execIncpat o s := rfl
theorem exec_decpat (o) (s : State) : exec (.decpat o) s = execDecpat o s := rfl
theorem exec_bingry (o) (s : State) : exec (.bingry o) s = execBingry o s := rfl
theorem exec_grybin (o) (s : State) : exec (.grybin o) s = execGrybin o s := rfl
theorem exec_mergew (o) (s : State) : exec (.mergew o) s = execMergew o s := rfl
theorem exec_splitw (o) (s : State) : exec (.splitw o) s = execSplitw o s := rfl
theorem exec_seussf (o) (s : State) : exec (.seussf o) s = execSeussf o s := rfl
theorem exec_seussr (o) (s : State) : exec (.seussr o) s = execSeussr o s := rfl
theorem exec_getphsa (o) (s : State) : exec (.getphsa o) s = execGetphsa o s := rfl
theorem exec_getphza (o) (s : State) : exec (.getphza o) s = execGetphza o s := rfl
theorem exec_getcosa (o) (s : State) : exec (.getcosa o) s = execGetcosa o s := rfl
theorem exec_getsina (o) (s : State) : exec (.getsina o) s = execGetsina o s := rfl
theorem exec_getphsb (o) (s : State) : exec (.getphsb o) s = execGetphsb o s := rfl
theorem exec_getphzb (o) (s : State) : exec (.getphzb o) s = execGetphzb o s := rfl
theorem exec_getcosb (o) (s : State) : exec (.getcosb o) s = execGetcosb o s := rfl
theorem exec_getsinb (o) (s : State) : exec (.getsinb o) s = execGetsinb o s := rfl
theorem exec_jmptask (o) (s : State) : exec (.jmptask o) s = execJmptask o s := rfl
theorem exec_nopx (o) (s : State) : exec (.nopx o) s = execNopx o s := rfl
theorem exec_setzc (o) (s : State) : exec (.setzc o) s = execSetzc o s := rfl
theorem exec_setspa (o) (s : State) : exec (.setspa o) s = execSetspa o s := rfl
theorem exec_setspb (o) (s : State) : exec (.setspb o) s = execSetspb o s := rfl
theorem exec_addspa (o) (s : State) : exec (.addspa o) s = execAddspa o s := rfl
theorem exec_addspb (o) (s : State) : exec (.addspb o) s = execAddspb o s := rfl
theorem exec_subspa (o) (s : State) : exec (.subspa o) s = execSubspa o s := rfl
theorem exec_subspb (o) (s : State) : exec (.subspb o) s = execSubspb o s := rfl
theorem exec_pushar (o) (s : State) : exec (.pushar o) s = execPushar o s := rfl
theorem exec_pushbr (o) (s : State) : exec (.pushbr o) s = execPushbr o s := rfl
theorem exec_pusha (o) (s : State) : exec (.pusha o) s = execPusha o s := rfl
theorem exec_pushb (o) (s : State) : exec (.pushb o) s = execPushb o s := rfl
theorem exec_calla (o) (s : State) : exec (.calla o) s = execCalla o s := rfl
theorem exec_callb (o) (s : State) : exec (.callb o) s = execCallb o s := rfl
theorem exec_callad (o) (s : State) : exec (.callad o) s = execCallad o s := rfl
theorem exec_callbd (o) (s : State) : exec (.callbd o) s = execCallbd o s := rfl
theorem exec_wrquad (o) (s : State) : exec (.wrquad o) s = execWrquad o s := rfl
theorem exec_rdquad (o) (s : State) : exec (.rdquad o) s = execRdquad o s := rfl
theorem exec_rdquadc (o) (s : State) : exec (.rdquadc o) s = execRdquadc o s := rfl
theorem exec_setptra (o) (s : State) : exec (.setptra o) s = execSetptra o s := rfl
theorem exec_setptrb (o) (s : State) : exec (.setptrb o) s = execSetptrb o s := rfl
theorem exec_addptra (o) (s : State) : exec (.addptra o) s = execAddptra o s := rfl
theorem exec_addptrb (o) (s : State) : exec (.addptrb o) s = execAddptrb o s := rfl
theorem exec_subptra (o) (s : State) : exec (.subptra o) s = execSubptra o s := rfl
theorem exec_subptrb (o) (s : State) : exec (.subptrb o) s = execSubptrb o s := rfl
theorem exec_setpix (o) (s : State) : exec (.setpix o) s = execSetpix o s := rfl
theorem exec_setpixu (o) (s : State) : exec (.setpixu o) s = execSetpixu o s := rfl
theorem exec_setpixv (o) (s : State) : exec (.setpixv o) s = execSetpixv o s := rfl
theorem exec_setpixz (o) (s : State) : exec (.setpixz o) s = execSetpixz o s := rfl
theorem exec_setpixa (o) (s : State) : exec (.setpixa o) s = execSetpixa o s := rfl
theorem exec_setpixr (o) (s : State) : exec (.setpixr o) s = execSetpixr o s := rfl
theorem exec_setpixg (o) (s : State) : exec (.setpixg o) s = execSetpixg o s := rfl
theorem exec_setpixb (o) (s : State) : exec (.setpixb o) s = execSetpixb o s := rfl
theorem exec_settask (o) (s : State) : exec (.settask o) s = execSettask o s := rfl
theorem exec_cfgdac0 (o) (s : State) : exec (.cfgdac0 o) s = execCfgdac0 o s := rfl
theorem exec_cfgdac1 (o) (s : State) : exec (.cfgdac1 o) s = execCfgdac1 o s := rfl
theorem exec_cfgdac2 (o) (s : State) : exec (.cfgdac2 o) s = execCfgdac2 o s := rfl
theorem exec_cfgdac3 (o) (s : State) : exec (.cfgdac3 o) s = execCfgdac3 o s := rfl
theorem exec_setdac0 (o) (s : State) : exec (.setdac0 o) s = execSetdac0 o s := rfl
theorem exec_setdac1 (o) (s : State) : exec (.setdac1 o) s = execSetdac1 o s := rfl
theorem exec_setdac2 (o) (s : State) : exec (.setdac2 o) s = execSetdac2 o s := rfl
theorem exec_setdac3 (o) (s : State) : exec (.setdac3 o) s = execSetdac3 o s := rfl
theorem exec_cfgdacs (o) (s : State) : exec (.cfgdacs o) s = execCfgdacs o s := rfl
theorem exec_setdacs (o) (s : State) : exec (.setdacs o) s = execSetdacs o s := rfl
theorem exec_getp (o) (s : State) : exec (.getp o) s = execGetp o s := rfl
theorem exec_getpn (o) (s : State) : exec (.getpn o) s = execGetpn o s := rfl
theorem exec_offp (o) (s : State) : exec (.offp o) s = execOffp o s := rfl
theorem exec_notp (o) (s : State) : exec (.notp o) s = execNotp o s := rfl
theorem exec_clrp (o) (s : State) : exec (.clrp o) s = execClrp o s := rfl
theorem exec_setp (o) (s : State) : exec (.setp o) s = execSetp o s := rfl
theorem exec_setpc (o) (s : State) : exec (.setpc o) s = execSetpc o s := rfl
theorem exec_setpnc (o) (s : State) : exec (.setpnc o) s = execSetpnc o s := rfl
theorem exec_setpz (o) (s : State) : exec (.setpz o) s = execSetpz o s := rfl
theorem exec_setpnz (o) (s : State) : exec (.setpnz o) s = execSetpnz o s := rfl
theorem exec_setmap (o) (s : State) : exec (.setmap o) s = execSetmap o s := rfl
theorem exec_setquad (o) (s : State) : exec (.setquad o) s = execSetquad o s := rfl
theorem exec_setquaz (o) (s : State) : exec (.setquaz o) s = execSetquaz o s := rfl
theorem exec_setport (o) (s : State) : exec (.setport o) s = execSetport o s := rfl
theorem exec_setpora (o) (s : State) : exec (.setpora o) s = execSetpora o s := rfl
theorem exec_setporb (o) (s : State) : exec (.setporb o) s = execSetporb o s := rfl
theorem exec_setporc (o) (s : State) : exec (.setporc o) s = execSetporc o s := rfl
theorem exec_setpord (o) (s : State) : exec (.setpord o) s = execSetpord o s := rfl
theorem exec_setxch (o) (s : State) : exec (.setxch o) s = execSetxch o s := rfl
theorem exec_setxfr (o) (s : State) : exec (.setxfr o) s = execSetxfr o s := rfl
theorem exec_setser (o) (s : State) : exec (.setser o) s = execSetser o s := rfl
theorem exec_setskip (o) (s : State) : exec (.setskip o) s = execSetskip o s := rfl
theorem exec_setvid (o) (s : State) : exec (.setvid o) s = execSetvid o s := rfl
theorem exec_setvidy (o) (s : State) : exec (.setvidy o) s = execSetvidy o s := rfl
theorem exec_setvidi (o) (s : State) : exec (.setvidi o) s = execSetvidi o s := rfl
theorem exec_setvidq (o) (s : State) : exec (.setvidq o) s = execSetvidq o s := rfl
theorem exec_setctra (o) (s : State) : exec (.setctra o) s = execSetctra o s := rfl
theorem exec_setwava (o) (s : State) : exec (.setwava o) s = execSetwava o s := rfl
theorem exec_setfrqa (o) (s : State) : exec (.setfrqa o) s = execSetfrqa o s := rfl
theorem exec_setphsa (o) (s : State) : exec (.setphsa o) s = execSetphsa o s := rfl
theorem exec_addphsa (o) (s : State) : exec (.addphsa o) s = execAddphsa o s := rfl
theorem exec_subphsa (o) (s : State) : exec (.subphsa o) s = execSubphsa o s := rfl
theorem exec_synctra (o) (s : State) : exec (.synctra o) s = execSynctra o s := rfl
theorem exec_capctra (o) (s : State) : exec (.capctra o) s = execCapctra o s := rfl
theorem exec_setctrb (o) (s : State) : exec (.setctrb o) s = execSetctrb o s := rfl
theorem exec_setwavb (o) (s : State) : exec (.setwavb o) s = execSetwavb o s := rfl
theorem exec_setfrqb (o) (s : State) : exec (.setfrqb o) s = execSetfrqb o s := rfl
theorem exec_setphsb (o) (s : State) : exec (.setphsb o) s = execSetphsb o s := rfl
theorem exec_addphsb (o) (s : State) : exec (.addphsb o) s = execAddphsb o s := rfl
theorem exec_subphsb (o) (s : State) : exec (.subphsb o) s = execSubphsb o s := rfl
theorem exec_synctrb (o) (s : State) : exec (.synctrb o) s = execSynctrb o s := rfl
theorem exec_capctrb (o) (s : State) : exec (.capctrb o) s = execCapctrb o s := rfl
theorem exec_isob (o) (s : State) : exec (.isob o) s = execIsob o s := rfl
theorem exec_notb (o) (s : State) : exec (.notb o) s = execNotb o s := rfl
theorem exec_clrb (o) (s : State) : exec (.clrb o) s = execClrb o s := rfl
theorem exec_setb (o) (s : State) : exec (.setb o) s = execSetb o s := rfl
theorem exec_setbc (o) (s : State) : exec (.setbc o) s = execSetbc o s := rfl
theorem exec_setbnc (o) (s : State) : exec (.setbnc o) s = execSetbnc o s := rfl
theorem exec_setbz (o) (s : State) : exec (.setbz o) s = execSetbz o s := rfl
theorem exec_setbnz (o) (s : State) : exec (.setbnz o) s = execSetbnz o s := rfl
theorem exec_setacca (o) (s : State) : exec (.setacca o) s = execSetacca o s := rfl
theorem exec_setaccb (o) (s : State) : exec (.setaccb o) s = execSetaccb o s := rfl
theorem exec_maca (o) (s : State) : exec (.maca o) s = execMaca o s := rfl
theorem exec_macb (o) (s : State) : exec (.macb o) s = execMacb o s := rfl
theorem exec_mul (o) (s : State) : exec (.mul o) s = execMul o s := rfl
theorem exec_scl (o) (s : State) : exec (.scl o) s = execScl o s := rfl
theorem exec_setindaAddr (o) (s : State) : exec (.setindaAddr o) s = execSetindaAddr o s := rfl
theorem exec_setindaDelta (o) (s : State) : exec (.setindaDelta o) s = execSetindaDelta o s := rfl
theorem exec_setindbAddr (o) (s : State) : exec (.setindbAddr o) s = execSetindbAddr o s := rfl
theorem exec_setindbDelta (o) (s : State) : exec (.setindbDelta o) s = execSetindbDelta o s := rfl
theorem exec_setindsAddrAddr (o) (s : State) : exec (.setindsAddrAddr o) s = execSetindsAddrAddr o s := rfl
theorem exec_setindsAddrDelta (o) (s : State) : exec (.setindsAddrDelta o) s = execSetindsAddrDelta o s := rfl
theorem exec_setindsDeltaAddr (o) (s : State) : exec (.setindsDeltaAddr o) s = execSetindsDeltaAddr o s := rfl
theorem exec_setindsDeltaDelta (o) (s : State) : exec (.setindsDeltaDelta o) s = execSetindsDeltaDelta o s := rfl
theorem exec_fixinda (o) (s : State) : exec (.fixinda o) s = execFixinda o s := rfl
theorem exec_fixindb (o) (s : State) : exec (.fixindb o) s = execFixindb o s := rfl
theorem exec_fixinds (o) (s : State) : exec (.fixinds o) s = execFixinds o s := rfl
theorem exec_enc (o) (s : State) : exec (.enc o) s = execEnc o s := rfl
theorem exec_jmpret (o) (s : State) : exec (.jmpret o) s = execJmpret o s := rfl
theorem exec_ror (o) (s : State) : exec (.ror o) s = execRor o s := rfl
theorem exec_rol (o) (s : State) : exec (.rol o) s = execRol o s := rfl
theorem exec_shr (o) (s : State) : exec (.shr o) s = execShr o s := rfl
theorem exec_shl (o) (s : State) : exec (.shl o) s = execShl o s := rfl
theorem exec_rcr (o) (s : State) : exec (.rcr o) s = execRcr o s := rfl
theorem exec_rcl (o) (s : State) : exec (.rcl o) s = execRcl o s := rfl
theorem exec_sar (o) (s : State) : exec (.sar o) s = execSar o s := rfl
theorem exec_rev (o) (s : State) : exec (.rev o) s = execRev o s := rfl
theorem exec_mins (o) (s : State) : exec (.mins o) s = execMins o s := rfl
theorem exec_maxs (o) (s : State) : exec (.maxs o) s = execMaxs o s := rfl
theorem exec_min (o) (s : State) : exec (.min o) s = execMin o s := rfl
theorem exec_max (o) (s : State) : exec (.max o) s = execMax o s := rfl
theorem exec_movs (o) (s : State) : exec (.movs o) s = execMovs o s := rfl
theorem exec_movd (o) (s : State) : exec (.movd o) s = execMovd o s := rfl
theorem exec_movi (o) (s : State) : exec (.movi o) s = execMovi o s := rfl
theorem exec_jmpretd (o) (s : State) : exec (.jmpretd o) s = execJmpretd o s := rfl
theorem exec_and (o) (s : State) : exec (.and o) s = execAnd o s := rfl
theorem exec_andn (o) (s : State) : exec (.andn o) s = execAndn o s := rfl
theorem exec_or (o) (s : State) : exec (.or o) s = execOr o s := rfl
theorem exec_xor (o) (s : State) : exec (.xor o) s = execXor o s := rfl
theorem exec_muxc (o) (s : State) : exec (.muxc o) s = execMuxc o s := rfl
theorem exec_muxnc (o) (s : State) : exec (.muxnc o) s = execMuxnc o s := rfl
theorem exec_muxz (o) (s : State) : exec (.muxz o) s = execMuxz o s := rfl
theorem exec_muxnz (o) (s : State) : exec (.muxnz o) s = execMuxnz o s := rfl
theorem exec_add (o) (s : State) : exec (.add o) s = execAdd o s := rfl
theorem exec_sub (o) (s : State) : exec (.sub o) s = execSub o s := rfl
theorem exec_addabs (o) (s : State) : exec (.addabs o) s = execAddabs o s := rfl
theorem exec_subabs (o) (s : State) : exec (.subabs o) s = execSubabs o s := rfl
theorem exec_sumc (o) (s : State) : exec (.sumc o) s = execSumc o s := rfl
theorem exec_sumnc (o) (s : State) : exec (.sumnc o) s = execSumnc o s := rfl
theorem exec_sumz (o) (s : State) : exec (.sumz o) s = execSumz o s := rfl
theorem exec_sumnz (o) (s : State) : exec (.sumnz o) s = execSumnz o s := rfl
theorem exec_mov (o) (s : State) : exec (.mov o) s = execMov o s := rfl
theorem exec_neg (o) (s : State) : exec (.neg o) s = execNeg o s := rfl
theorem exec_abs (o) (s : State) : exec (.abs o) s = execAbs o s := rfl
theorem exec_absneg (o) (s : State) : exec (.absneg o) s = execAbsneg o s := rfl
theorem exec_negc (o) (s : State) : exec (.negc o) s = execNegc o s := rfl
theorem exec_negnc (o) (s : State) : exec (.negnc o) s = execNegnc o s := rfl
theorem exec_negz (o) (s : State) : exec (.negz o) s = execNegz o s := rfl
theorem exec_negnz (o) (s : State) : exec (.negnz o) s = execNegnz o s := rfl
theorem exec_cmps (o) (s : State) : exec (.cmps o) s = execCmps o s := rfl
theorem exec_cmpsx (o) (s : State) : exec (.cmpsx o) s = execCmpsx o s := rfl
theorem exec_addx (o) (s : State) : exec (.addx o) s = execAddx o s := rfl
theorem exec_subx (o) (s : State) : exec (.subx o) s = execSubx o s := rfl
theorem exec_adds (o) (s : State) : exec (.adds o) s = execAdds o s := rfl
theorem exec_subs (o) (s : State) : exec (.subs o) s = execSubs o s := rfl
theorem exec_addsx (o) (s : State) : exec (.addsx o) s = execAddsx o s := rfl
theorem exec_subsx (o) (s : State) : exec (.subsx o) s = execSubsx o s := rfl
theorem exec_subr (o) (s : State) : exec (.subr o) s = execSubr o s := rfl
theorem exec_cmpsub (o) (s : State) : exec (.cmpsub o) s = execCmpsub o s := rfl
theorem exec_incmod (o) (s : State) : exec (.incmod o) s = execIncmod o s := rfl
theorem exec_decmod (o) (s : State) : exec (.decmod o) s = execDecmod o s := rfl
theorem exec_ijz (o) (s : State) : exec (.ijz o) s = execIjz o s := rfl
theorem exec_ijzd (o) (s : State) : exec (.ijzd o) s = execIjzd o s := rfl
theorem exec_ijnz (o) (s : State) : exec (.ijnz o) s = execIjnz o s := rfl
theorem exec_ijnzd (o) (s : State) : exec (.ijnzd o) s = execIjnzd o s := rfl
theorem exec_djz (o) (s : State) : exec (.djz o) s = execDjz o s := rfl
theorem exec_djzd (o) (s : State) : exec (.djzd o) s = execDjzd o s := rfl
theorem exec_djnz (o) (s : State) : exec (.djnz o) s = execDjnz o s := rfl
theorem exec_djnzd (o) (s : State) : exec (.djnzd o) s = execDjnzd o s := rfl
theorem exec_tjz (o) (s : State) : exec (.tjz o) s = execTjz o s := rfl
theorem exec_tjzd (o) (s : State) : exec (.tjzd o) s = execTjzd o s := rfl
theorem exec_tjnz (o) (s : State) : exec (.tjnz o) s = execTjnz o s := rfl
theorem exec_tjnzd (o) (s : State) : exec (.tjnzd o) s = execTjnzd o s := rfl
theorem exec_cfgpins (o) (s : State) : exec (.cfgpins o) s = execCfgpins o s := rfl
theorem exec_waitvid (o) (s : State) : exec (.waitvid o) s = execWaitvid o s := rfl
theorem exec_waitcnt (o) (s : State) : exec (.waitcnt o) s = execWaitcnt o s := rfl
theorem exec_waitpeq (o) (s : State) : exec (.waitpeq o) s = execWaitpeq o s := rfl
theorem exec_waitpne (o) (s : State) : exec (.waitpne o) s = execWaitpne o s := rfl
theorem exec_setindaOld (o) (s : State) : exec (.setindaOld o) s = execSetindaOld o s := rfl
theorem exec_setindbOld (o) (s : State) : exec (.setindbOld o) s = execSetindbOld o s := rfl
theorem exec_setcog (o) (s : State) : exec (.setcog o) s = execSetcog o s := rfl
theorem exec_reps (o) (s : State) : exec (.reps o) s = execReps o s := rfl
theorem exec_repd (o) (s : State) : exec (.repd o) s = execRepd o s := rfl
theorem exec_getmull (o) (s : State) : exec (.getmull o) s = execGetmull o s := rfl
theorem exec_getmulh (o) (s : State) : exec (.getmulh o) s = execGetmulh o s := rfl
theorem exec_getdivq (o) (s : State) : exec (.getdivq o) s = execGetdivq o s := rfl
theorem exec_getdivr (o) (s : State) : exec (.getdivr o) s = execGetdivr o s := rfl
theorem exec_getsqrt (o) (s : State) : exec (.getsqrt o) s = execGetsqrt o s := rfl
theorem exec_getqx (o) (s : State) : exec (.getqx o) s = execGetqx o s := rfl
theorem exec_getqy (o) (s : State) : exec (.getqy o) s = execGetqy o s := rfl
theorem exec_getqz (o) (s : State) : exec (.getqz o) s = execGetqz o s := rfl
theorem exec_polctra (o) (s : State) : exec (.polctra o) s = execPolctra o s := rfl
theorem exec_polctrb (o) (s : State) : exec (.polctrb o) s = execPolctrb o s := rfl
theorem exec_polvid (o) (s : State) : exec (.polvid o) s = execPolvid o s := rfl
theorem exec_passcnt (o) (s : State) : exec (.passcnt o) s = execPasscnt o s := rfl
theorem exec_jp (o) (s : State) : exec (.jp o) s = execJp o s := rfl
theorem exec_jnp (o) (s : State) : exec (.jnp o) s = execJnp o s := rfl
theorem exec_nop (s : State) : exec .nop s = execNop s := rfl
theorem exec_jmp (o) (s : State) : exec (.jmp o) s = execJmp o s := rfl
theorem exec_jmpd (o) (s : State) : exec (.jmpd o) s = execJmpd o s := rfl
theorem exec_call (o) (s : State) : exec (.call o) s = execCall o s := rfl
theorem exec_ret (o) (s : State) : exec (.ret o) s = execRet o s := rfl
theorem exec_calld (o) (s : State) : exec (.calld o) s = execCalld o s := rfl
theorem exec_retd (o) (s : State) : exec (.retd o) s = execRetd o s := rfl

end Sys2Proof.Machine
end

