-- ==== Sys2Proof/Laws/Forms.lean ====
section
/-!
SUPPORT. For each shared meaning (`alu`, `aluZ`, `changeD`, `getValue`, `runDn` with an effect on the
COG, ...), the whole of what an instruction that is an instance of it does.
-/
namespace Sys2Proof.Machine

@[simp] theorem enter_flagZ (d x : Reg) (c : Cog) : (enter d x c).flagZ = c.flagZ := by
  simp [enter, advance, stepPointers, Cog.flagZ, Cog.tsk, Cog.setTsk]

@[simp] theorem enter_flagC (d x : Reg) (c : Cog) : (enter d x c).flagC = c.flagC := by
  simp [enter, advance, stepPointers, Cog.flagC, Cog.tsk, Cog.setTsk]

/-- Of the effect of `did_main` all is left but the change of other state. -/
theorem did_other {f : Cog → Cog} {d x : Reg} {s : State} (hf : Benign f d x s.cog) :
    Did { cog := f } d x s (s.setCog (f (enter d x s.cog))) :=
  did_main hf false false false false false false false 0#9 0#9 0#32

theorem alu_does {mk : AluOps → Instr} {reads : Bool} {f : Word → Word → Bool → Bool → AluOut}
    (h : ∀ o s, exec (mk o) s = alu reads f o s)
    {g : Word → Word → Bool → Bool → Word × Bool × Bool}
    (hg : ∀ d s z c, g d s z c = ((f d s z c).v, (f d s z c).z, (f d s z c).c)) : AluDoes mk reads g := by
  intro o s hr
  refine ⟨s.setCog (flagsAndBranch o.z (f (valueOf s o.d) (sourceOf s o.s) s.cog.flagZ s.cog.flagC).z
      o.c (f (valueOf s o.d) (sourceOf s o.s) s.cog.flagZ s.cog.flagC).c false false 0#9
      (writeD o.r (addrOf s o.d) (f (valueOf s o.d) (sourceOf s o.s) s.cog.flagZ s.cog.flagC).v
        (id (enter o.d (srcReg o.s) s.cog)))), ?_, ?_⟩
  · rw [h, alu, runDS_ready hr]
    simp [onCog, putOut, flagsAndBranch, branchIf, enter_flagZ, enter_flagC]
  · simp only [hg]
    exact did_main (benign_id _ _ _) _ _ _ _ _ false _ _ _ _

theorem aluZ_does {mk : AluZOps → Instr} {reads : Bool} {f : Word → Word → Word}
    (h : ∀ o s, exec (mk o) s = aluZ reads f o s)
    {g : Word → Word → Word} (hg : ∀ d s, g d s = f d s) : AluZDoes mk reads g := by
  intro o s hr
  have : g = f := by funext d s; exact hg d s
  subst this
  refine ⟨s.setCog (flagsAndBranch o.z (decide (g (valueOf s o.d) (sourceOf s o.s) = 0#32))
      false false false false 0#9
      (writeD o.r (addrOf s o.d) (g (valueOf s o.d) (sourceOf s o.s))
        (id (enter o.d (srcReg o.s) s.cog)))), ?_, ?_⟩
  · rw [h, aluZ, runDS_ready hr]
    simp [onCog, deliver, flagsAndBranch, branchIf, writeC, beq_eq_decide]
  · exact did_main (benign_id _ _ _) _ _ _ _ _ false _ _ _ _

theorem dzr_does {mk : DZROps → Instr} {reads : Bool} {f : State → Word → Word} {g : State → Cog → Cog}
    (h : ∀ o s, readyD reads o.cond o.d s → exec (mk o) s = 
      .next (s.setCog (deliver o.z o.r (addrOf s o.d) (f s (valueOf s o.d)) (g s (enter o.d noReg s.cog)))))
    (hb : ∀ d s, Benign (g s) d noReg s.cog) : DzrDoes mk reads f g := by
  intro o s hr
  refine ⟨s.setCog (flagsAndBranch o.z (decide (f s (valueOf s o.d) = 0#32))
      false false false false 0#9
      (writeD o.r (addrOf s o.d) (f s (valueOf s o.d))
        (g s (enter o.d noReg s.cog)))), ?_, ?_⟩
  · rw [h _ _ hr]
    simp [deliver, flagsAndBranch, branchIf, writeC, beq_eq_decide]
  · exact did_main (hb _ _) o.r o.z _ false false false false _ 0#9 _

theorem changeD_does {mk : DZROps → Instr} {f : Word → Word}
    (h : ∀ o s, exec (mk o) s = changeD f o s) (g : Word → Word) (hg : ∀ d, g d = f d) : DzrDoes mk true (fun _ => g) := by
  have : g = f := by funext d; exact hg d
  subst this
  refine dzr_does (fun o s hr => ?_) (fun d s => ?_)
  · rw [h, changeD, runD_ready hr]; simp [onCog]
  · constructor <;> rfl

theorem getValue_does {mk : DZROps → Instr} {v : State → Word} 
    (h : ∀ o s, exec (mk o) s = getValue o s v) (hv : ∀ s d, v (s.setCog (enter d noReg s.cog)) = v s) :
    DzrDoes mk false (fun s _ => v s) := by
  refine dzr_does (fun o s hr => ?_) (fun d s => ?_)
  · rw [h, getValue, runD_ready hr]; simp [onCog, hv]
  · constructor <;> rfl

theorem dn_does {mk : DnOps → Instr} {w : Nat} {f : State → Word → Cog → Cog}
    (h : ∀ o s, readyDn o.cond o.d s → exec (mk o) s = .next (s.setCog (f s (numberOf w s o.d) (enter (dimmReg o.d) noReg s.cog))))
    (hb : ∀ v d s, Benign (f s v) d noReg s.cog) : DnDoes mk w (fun s v => {cog := f s v}) := by
  intro o s hr
  refine ⟨s.setCog (flagsAndBranch false false
      false false false false 0#9
      (writeD false 0#9 0#32
        (f s (numberOf w s o.d) (enter (dimmReg o.d) noReg s.cog)))), ?_, ?_⟩
  · rw [h _ _ hr]
    simp [flagsAndBranch, branchIf, writeC, writeZ, writeD]
  · exact did_main (hb _ _ _) false false false false false false false 0#9 0#9 0#32

theorem runDn_does {mk : DnOps → Instr} {w : Nat} {f g : Word → Cog → Cog}
    (h : ∀ o s, exec (mk o) s = runDn w o.cond o.d s fun v => onCog (f v)) (hg : ∀ v c, g v c = f v c)
    (hb : ∀ v d (s : State), Benign (f v) d noReg s.cog) : DnSets mk w g := by
  have : g = f := by funext d c; exact hg d c
  subst this
  refine dn_does (fun o s hr => ?_) (fun v d s => hb v d s)
  rw [h, runDn_ready hr]; simp [onCog]

theorem ds_does {mk : DSOps → Instr} {f : Word → Word → Cog → Cog}
    (h : ∀ o s, exec (mk o) s = runDS true o.cond o.d o.s s fun _ dv sv => onCog (f dv sv)) 
    (hb : ∀ u v d x (s : State), Benign (f u v) d x s.cog) : DsDoes mk (fun _ d s => {cog := f d s}) := by
  intro o s hr
  refine ⟨s.setCog (flagsAndBranch false false
      false false false false 0#9
      (writeD false 0#9 0#32
        (f (valueOf s o.d) (sourceOf s o.s) (enter (o.d) (srcReg o.s) s.cog)))), ?_, ?_⟩
  · rw [h, runDS_ready hr]
    simp [flagsAndBranch, branchIf, writeC, writeZ, writeD, onCog]
  · exact did_main (hb _ _ _ _ _) false false false false false false false 0#9 0#9 0#32

theorem plain_does {α : Type} {mk : α → Instr} {cond : α → Cond} {f : Cog → Cog}
    (h : ∀ o s, exec (mk o) s = runPlain (cond o) s (onCog f)) 
    (hb : ∀ (s : State), Benign f noReg noReg s.cog) : PlainDoes mk cond (fun _ _ => {cog := f}) := by
  intro o s hr
  refine ⟨s.setCog (flagsAndBranch false false
      false false false false 0#9
      (writeD false 0#9 0#32
        (f (enter noReg noReg s.cog)))), ?_, ?_⟩
  · rw [h, runPlain_ready hr]
    simp [flagsAndBranch, branchIf, writeC, writeZ, writeD, onCog]
  · exact did_main (hb _) false false false false false false false 0#9 0#9 0#32

theorem devWrite_does {mk : DnOps → Instr} {w : Nat} {f g : Word → Cog → Cog}
    (h : ∀ o s, exec (mk o) s = devWrite w f o s) (hg : ∀ v c, g v c = f v c)
    (hb : ∀ v d (s : State), Benign (f v) d noReg s.cog) : DnSets mk w g :=
  runDn_does h hg hb

end Sys2Proof.Machine
end

