-- ==== Sys2Proof/Laws/Memory.lean ====
section
/-!
SUPPORT. The laws of HUB memory: the canonical form is kept by every operation, a read after a write
gives what was written, and memories of the same bytes are equal.
-/
namespace Sys2Proof.Machine

/-- A cell that the canonical form admits: a RAM address and a byte other than 0. -/
def cellOk (x : Host.Cell) : Prop := ramStart ≤ x.1 ∧ x.1 < 2 ^ 17 ∧ x.2 ≠ 0#8

theorem wf_cons (x : Host.Cell) (m : List Host.Cell) :
    Memory.wf (x :: m) = true ↔ cellOk x ∧ (∀ y ∈ m, x.1 < y.1) ∧ Memory.wf m = true := by
  induction m generalizing x with
  | nil => obtain ⟨a, v⟩ := x; simp [Memory.wf, cellOk, and_assoc]
  | cons y m ih =>
    obtain ⟨a, v⟩ := x
    obtain ⟨b, w⟩ := y
    have hy := ih (b, w)
    simp only [Memory.wf, Bool.and_eq_true, decide_eq_true_eq, bne_iff_ne, List.mem_cons,
      forall_eq_or_imp]
    constructor
    · rintro ⟨⟨⟨h1, h2⟩, h3⟩, h4⟩
      obtain ⟨ok, lt, _⟩ := hy.1 h4
      exact ⟨⟨h1, lt_trans h2 ok.2.1, h3⟩, ⟨h2, fun y hm => lt_trans h2 (lt y hm)⟩, h4⟩
    · rintro ⟨⟨h1, _, h3⟩, ⟨h2, _⟩, h4⟩
      exact ⟨⟨⟨h1, h2⟩, h3⟩, h4⟩

@[simp] theorem wf_nil : Memory.wf [] = true := rfl

theorem cellLookup_none {m : List Host.Cell} {a : Nat} (h : ∀ y ∈ m, a < y.1) :
    cellLookup m a = none := by
  induction m with
  | nil => rfl
  | cons x m ih =>
    obtain ⟨b, w⟩ := x
    have hb : a < b := h (b, w) (by simp)
    rw [cellLookup, if_neg (Nat.ne_of_lt hb)]
    exact ih fun y hy => h y (by simp [hy])

theorem cellLookup_cellSet {m : List Host.Cell} (h : Memory.wf m = true) (a b : Nat) (v : Byte) :
    cellLookup (cellSet m a v) b =
      if b = a then (if v = 0#8 then none else some v) else cellLookup m b := by
  induction m with
  | nil =>
    unfold cellSet
    by_cases hv : v = 0#8 <;> by_cases hb : b = a <;> simp [hv, hb, cellLookup]
  | cons x m ih =>
    obtain ⟨c, w⟩ := x
    obtain ⟨-, lt, wf⟩ := (wf_cons _ _).1 h
    have none_at : ∀ k, k ≤ c → cellLookup m k = none :=
      fun k hk => cellLookup_none fun y hy => Nat.lt_of_le_of_lt hk (lt y hy)
    unfold cellSet
    split_ifs <;> (try simp only [cellLookup, ih wf]) <;> (try split_ifs) <;> subst_vars <;>
      first | rfl | omega | exact none_at _ (by omega)

theorem mem_cellSet {m : List Host.Cell} {a : Nat} {v : Byte} {y : Host.Cell}
    (h : y ∈ cellSet m a v) : y = (a, v) ∨ y ∈ m := by
  induction m with
  | nil => unfold cellSet at h; split at h <;> simp_all
  | cons x m ih =>
    obtain ⟨c, w⟩ := x
    unfold cellSet at h
    split_ifs at h with h1 h2 h3 h4
    · exact .inr h
    · rcases List.mem_cons.1 h with h | h
      · exact .inl h
      · exact .inr h
    · exact .inr (by simp [h])
    · rcases List.mem_cons.1 h with h | h
      · exact .inl h
      · exact .inr (by simp [h])
    · rcases List.mem_cons.1 h with h | h
      · exact .inr (by simp [h])
      · rcases ih h with h | h
        · exact .inl h
        · exact .inr (by simp [h])

theorem wf_cellSet {m : List Host.Cell} (h : Memory.wf m = true) {a : Nat} (v : Byte)
    (h1 : ramStart ≤ a) (h2 : a < 2 ^ 17) : Memory.wf (cellSet m a v) = true := by
  induction m with
  | nil =>
    unfold cellSet
    split_ifs with hv
    · rfl
    · exact (wf_cons _ _).2 ⟨⟨h1, h2, hv⟩, by simp, rfl⟩
  | cons x m ih =>
    obtain ⟨c, w⟩ := x
    obtain ⟨ok, lt, wf⟩ := (wf_cons _ _).1 h
    unfold cellSet
    split_ifs with l hv e hv
    · exact h
    · refine (wf_cons _ _).2 ⟨⟨h1, h2, hv⟩, ?_, h⟩
      intro y hy
      rcases List.mem_cons.1 hy with rfl | hy
      · exact l
      · exact lt_trans l (lt y hy)
    · exact wf
    · exact (wf_cons _ _).2 ⟨⟨h1, h2, hv⟩, fun y hy => e ▸ lt y hy, wf⟩
    · refine (wf_cons _ _).2 ⟨ok, ?_, ih wf⟩
      intro y hy
      rcases mem_cellSet hy with rfl | hy
      · show c < a
        omega
      · exact lt y hy

/-! ### Bytes -/

theorem writeByte_rom {m : List Host.Cell} {a : HubAddress} (h : inRom a = true) (v : Byte) :
    writeByte m a v = m := by
  have : a.toNat < ramStart := by simpa [inRom] using h
  simp [writeByte, this]

theorem wf_writeByte {m : List Host.Cell} (h : Memory.wf m = true) (a : HubAddress) (v : Byte) :
    Memory.wf (writeByte m a v) = true := by
  unfold writeByte
  split_ifs with h1
  · exact h
  · exact wf_cellSet h v (Nat.le_of_not_lt h1) a.isLt

/-- A read after a write (R85, R86): the byte written, where it was written in RAM. -/
theorem readByte_writeByte {m : List Host.Cell} (h : Memory.wf m = true) (a b : HubAddress)
    (v : Byte) :
    readByte (writeByte m a v) b = if b = a ∧ inRom a = false then v else readByte m b := by
  unfold writeByte inRom
  by_cases h1 : a.toNat < ramStart
  · simp [h1]
  · rw [if_neg h1]
    unfold readByte
    rw [cellLookup_cellSet h]
    by_cases hb : b = a
    · subst hb
      by_cases hv : v = 0#8
      · subst hv
        simp [h1, unlistedByte, show ¬ b.toNat < 32 by unfold ramStart at h1; omega]
      · simp [h1, hv]
    · have : b.toNat ≠ a.toNat := fun e => hb (BitVec.eq_of_toNat_eq e)
      simp [hb, this]

/-- Memories in canonical form with the same bytes are the same list. -/
theorem wf_ext {m n : List Host.Cell} (hm : Memory.wf m = true) (hn : Memory.wf n = true)
    (h : ∀ a, readByte m a = readByte n a) : m = n := by
  have key : ∀ {l : List Host.Cell}, Memory.wf l = true → ∀ a : HubAddress, inRom a = false →
      readByte l a = (cellLookup l a.toNat).getD 0#8 := by
    intro l _ a ha
    have h1 : ¬ a.toNat < ramStart := by simpa [inRom] using ha
    simp [readByte, unlistedByte, h1, show ¬ a.toNat < 32 by unfold ramStart at h1; omega]
  have low : ∀ {l : List Host.Cell}, Memory.wf l = true → ∀ a, a < ramStart ∨ 2 ^ 17 ≤ a →
      cellLookup l a = none := by
    intro l
    induction l with
    | nil => intros; rfl
    | cons x l ih =>
      obtain ⟨c, w⟩ := x
      intro hl a ha
      obtain ⟨ok, -, wf⟩ := (wf_cons _ _).1 hl
      have : a ≠ c := by
        have h1 : ramStart ≤ c := ok.1
        have h2 : c < 2 ^ 17 := ok.2.1
        omega
      rw [cellLookup, if_neg this]
      exact ih wf a ha
  have nz : ∀ {l : List Host.Cell}, Memory.wf l = true → ∀ a, cellLookup l a ≠ some 0#8 := by
    intro l
    induction l with
    | nil => intro _ a; simp [cellLookup]
    | cons x l ih =>
      obtain ⟨c, w⟩ := x
      intro hl a
      obtain ⟨ok, -, wf⟩ := (wf_cons _ _).1 hl
      rw [cellLookup]
      split_ifs
      · intro e; exact ok.2.2 (by simpa using e)
      · exact ih wf a
  have look : ∀ a, cellLookup m a = cellLookup n a := by
    intro a
    by_cases ha : a < ramStart ∨ 2 ^ 17 ≤ a
    · rw [low hm a ha, low hn a ha]
    · have ha' : a < 2 ^ 17 := by omega
      have hb : inRom (BitVec.ofNatLT a ha') = false := by
        simp [inRom]; omega
      have e := h (BitVec.ofNatLT a ha')
      rw [key hm _ hb, key hn _ hb] at e
      simp only [BitVec.toNat_ofNatLT] at e
      have n1 := nz hm a
      have n2 := nz hn a
      cases h1 : cellLookup m a <;> cases h2 : cellLookup n a <;> simp_all
  clear h key low nz
  induction m generalizing n with
  | nil =>
    cases n with
    | nil => rfl
    | cons y n => have := look y.1; simp [cellLookup] at this
  | cons x m ih =>
    obtain ⟨a, v⟩ := x
    cases n with
    | nil => have := look a; simp [cellLookup] at this
    | cons y n =>
      obtain ⟨b, w⟩ := y
      obtain ⟨-, lm, wm⟩ := (wf_cons _ _).1 hm
      obtain ⟨-, ln, wn⟩ := (wf_cons _ _).1 hn
      have e1 := look a
      have e2 := look b
      have hab : a = b := by
        rcases Nat.lt_trichotomy a b with h | h | h
        · rw [cellLookup, if_pos rfl, cellLookup_none (m := (b, w) :: n)] at e1
          · cases e1
          · intro y hy
            rcases List.mem_cons.1 hy with rfl | hy
            · exact h
            · exact lt_trans h (ln y hy)
        · exact h
        · rw [cellLookup_none (m := (a, v) :: m), cellLookup, if_pos rfl] at e2
          · cases e2
          · intro y hy
            rcases List.mem_cons.1 hy with rfl | hy
            · exact h
            · exact lt_trans h (lm y hy)
      subst hab
      have hv : v = w := by simpa [cellLookup] using e1
      subst hv
      congr 1
      apply ih wm wn
      intro k
      by_cases hk : k = a
      · subst hk
        rw [cellLookup_none (fun y hy => lm y hy), cellLookup_none (fun y hy => ln y hy)]
      · simpa [cellLookup, hk] using look k

/-! ### Words, longs and quads -/

theorem alignTo_toNat (k : Nat) (a : HubAddress) :
    (alignTo k a).toNat = a.toNat / 2 ^ k * 2 ^ k := by
  have h : a.toNat / 2 ^ k * 2 ^ k ≤ a.toNat := Nat.div_mul_le_self _ _
  have := a.isLt
  simp only [alignTo, BitVec.toNat_shiftLeft, BitVec.toNat_ushiftRight, Nat.shiftLeft_eq,
    Nat.shiftRight_eq_div_pow]
  exact Nat.mod_eq_of_lt (by omega)

theorem sameUnit_iff (k : Nat) (a b : HubAddress) :
    a >>> k = b >>> k ↔ a.toNat / 2 ^ k = b.toNat / 2 ^ k := by
  rw [← BitVec.toNat_inj]
  simp [BitVec.toNat_ushiftRight, Nat.shiftRight_eq_div_pow]

theorem wf_memWrite1 {m : List Host.Cell} (h : Memory.wf m = true) (a : HubAddress) (v : BitVec 8) :
    Memory.wf (memWrite1 m a v) = true := wf_writeByte h a v

theorem wf_memWrite2 {m : List Host.Cell} (h : Memory.wf m = true) (a : HubAddress) (v : BitVec 16) :
    Memory.wf (memWrite2 m a v) = true := wf_writeByte (wf_writeByte h _ _) _ _

theorem wf_memWrite4 {m : List Host.Cell} (h : Memory.wf m = true) (a : HubAddress) (v : Word) :
    Memory.wf (memWrite4 m a v) = true :=
  wf_writeByte (wf_writeByte (wf_writeByte (wf_writeByte h _ _) _ _) _ _) _ _

theorem wf_memWriteQuad {m : List Host.Cell} (h : Memory.wf m = true) (a : HubAddress)
    (q : Bank 2 Word) : Memory.wf (memWriteQuad m a q) = true :=
  wf_memWrite4 (wf_memWrite4 (wf_memWrite4 (wf_memWrite4 h _ _) _ _) _ _) _ _

theorem wf_memoryOf (cells : List Host.Cell) : Memory.wf (memoryOf cells) = true := by
  unfold memoryOf
  have : ∀ (l m : List Host.Cell), Memory.wf m = true →
      Memory.wf (l.foldl (fun m x => writeByte m (BitVec.ofNat 17 x.1) x.2) m) = true := by
    intro l
    induction l with
    | nil => intro m h; exact h
    | cons x l ih => intro m h; exact ih _ (wf_writeByte h _ _)
  exact this _ _ rfl

theorem inRom_iff (a : HubAddress) : inRom a = false ↔ 0xE80 ≤ a.toNat := by
  by_cases h : a.toNat < ramStart
  · simp only [inRom, h, decide_true, Bool.true_eq_false, false_iff, not_le]
    exact h
  · simp only [inRom, h, decide_false, true_iff]
    exact Nat.le_of_not_lt h

/-- Reading back a byte store. -/
theorem readByte_memWrite1 {m : List Host.Cell} (h : Memory.wf m = true) {a : HubAddress}
    (ha : inRom a = false) (v : BitVec 8) (b : HubAddress) :
    readByte (memWrite1 m a v) b = (storedByte 0 a v b).getD (readByte m b) := by
  unfold memWrite1 storedByte
  rw [readByte_writeByte h]
  by_cases e : b = a
  · subst e
    simp [ha]
    apply BitVec.eq_of_toNat_eq
    simp [Nat.mod_one]
  · simp [e]

/-- The addresses of one aligned unit of `2 ^ k` bytes are its start plus an offset below `2 ^ k`. -/
theorem eq_unit_add {k : Nat} (hk : k = 1 ∨ k = 2 ∨ k = 4) (a b : HubAddress) {i : Nat}
    (hi : i < 2 ^ k) :
    b = alignTo k a + BitVec.ofNat 17 i ↔ b.toNat / 2 ^ k = a.toNat / 2 ^ k ∧ b.toNat % 2 ^ k = i := by
  rw [← BitVec.toNat_inj, BitVec.toNat_add, alignTo_toNat, BitVec.toNat_ofNat]
  have := a.isLt
  have := b.isLt
  rcases hk with rfl | rfl | rfl <;> norm_num at hi ⊢ <;> omega

theorem inRom_unit_add {k : Nat} (hk : k = 1 ∨ k = 2 ∨ k = 4) {a : HubAddress}
    (ha : inRom a = false) {i : Nat} (hi : i < 2 ^ k) :
    inRom (alignTo k a + BitVec.ofNat 17 i) = false := by
  rw [inRom_iff] at ha ⊢
  rw [BitVec.toNat_add, alignTo_toNat, BitVec.toNat_ofNat]
  have := a.isLt
  rcases hk with rfl | rfl | rfl <;> norm_num at hi ⊢ <;> omega

/-- Reading back a word store. -/
theorem readByte_memWrite2 {m : List Host.Cell} (h : Memory.wf m = true) {a : HubAddress}
    (ha : inRom a = false) (v : BitVec 16) (b : HubAddress) :
    readByte (memWrite2 m a v) b = (storedByte 1 a v b).getD (readByte m b) := by
  have e0 := eq_unit_add (k := 1) (by simp) a b (i := 0) (by simp)
  have e1 := eq_unit_add (k := 1) (by simp) a b (i := 1) (by simp)
  have r0 := inRom_unit_add (k := 1) (by simp) ha (i := 0) (by simp)
  have r1 := inRom_unit_add (k := 1) (by simp) ha (i := 1) (by simp)
  simp only [BitVec.add_zero] at e0 r0
  unfold memWrite2 storedByte
  simp only [sameUnit_iff]
  rw [readByte_writeByte (wf_writeByte h _ _), readByte_writeByte h]
  simp only [r0, r1, and_true, e0, e1] at *
  have : b.toNat % 2 = 0 ∨ b.toNat % 2 = 1 := by omega
  by_cases hu : b.toNat / 2 ^ 1 = a.toNat / 2 ^ 1 <;> rcases this with p | p <;> simp_all

/-- Reading back a long store. -/
theorem readByte_memWrite4 {m : List Host.Cell} (h : Memory.wf m = true) {a : HubAddress}
    (ha : inRom a = false) (v : Word) (b : HubAddress) :
    readByte (memWrite4 m a v) b = (storedByte 2 a v b).getD (readByte m b) := by
  have e0 := eq_unit_add (k := 2) (by simp) a b (i := 0) (by simp)
  have e1 := eq_unit_add (k := 2) (by simp) a b (i := 1) (by simp)
  have e2 := eq_unit_add (k := 2) (by simp) a b (i := 2) (by simp)
  have e3 := eq_unit_add (k := 2) (by simp) a b (i := 3) (by simp)
  have r0 := inRom_unit_add (k := 2) (by simp) ha (i := 0) (by simp)
  have r1 := inRom_unit_add (k := 2) (by simp) ha (i := 1) (by simp)
  have r2 := inRom_unit_add (k := 2) (by simp) ha (i := 2) (by simp)
  have r3 := inRom_unit_add (k := 2) (by simp) ha (i := 3) (by simp)
  simp only [BitVec.add_zero] at e0 r0
  unfold memWrite4 storedByte
  simp only [sameUnit_iff]
  have w0 := wf_writeByte h (alignTo 2 a) (v.extractLsb' 0 8)
  have w1 := wf_writeByte w0 (alignTo 2 a + 1#17) (v.extractLsb' 8 8)
  have w2 := wf_writeByte w1 (alignTo 2 a + 2#17) (v.extractLsb' 16 8)
  rw [readByte_writeByte w2, readByte_writeByte w1, readByte_writeByte w0, readByte_writeByte h]
  simp only [r0, r1, r2, r3, and_true, e0, e1, e2, e3] at *
  have : b.toNat % 4 = 0 ∨ b.toNat % 4 = 1 ∨ b.toNat % 4 = 2 ∨ b.toNat % 4 = 3 := by omega
  by_cases hu : b.toNat / 2 ^ 2 = a.toNat / 2 ^ 2 <;> rcases this with p | p | p | p <;> simp_all

theorem quadBits_byte (q : Bank 2 Word) (i : Nat) (hi : i < 16) :
    (quadBits q).extractLsb' (8 * i) 8 =
      (q.rd (BitVec.ofNat 2 (i / 4))).extractLsb' (8 * (i % 4)) 8 := by
  unfold quadBits
  apply BitVec.eq_of_getLsbD_eq
  intro j hj
  simp only [BitVec.getLsbD_extractLsb', BitVec.getLsbD_append, hj, decide_true, Bool.true_and]
  have : i = 0 ∨ i = 1 ∨ i = 2 ∨ i = 3 ∨ i = 4 ∨ i = 5 ∨ i = 6 ∨ i = 7 ∨ i = 8 ∨ i = 9 ∨ i = 10 ∨
      i = 11 ∨ i = 12 ∨ i = 13 ∨ i = 14 ∨ i = 15 := by omega
  rcases this with h | h | h | h | h | h | h | h | h | h | h | h | h | h | h | h <;> subst h <;>
    norm_num <;> split_ifs <;> first | omega | (congr 1; omega)

theorem unit_of_long {a b : HubAddress} (j : Nat) (hj : j < 4) :
    b >>> 2 = (alignTo 4 a + BitVec.ofNat 17 (4 * j)) >>> 2 ↔
      b.toNat / 2 ^ 4 = a.toNat / 2 ^ 4 ∧ b.toNat % 16 / 4 = j := by
  rw [sameUnit_iff, BitVec.toNat_add, alignTo_toNat, BitVec.toNat_ofNat]
  have := a.isLt
  have := b.isLt
  norm_num
  omega

/-- Reading back a quad store. -/
theorem readByte_memWriteQuad {m : List Host.Cell} (h : Memory.wf m = true) {a : HubAddress}
    (ha : inRom a = false) (q : Bank 2 Word) (b : HubAddress) :
    readByte (memWriteQuad m a q) b = (storedByte 4 a (quadBits q) b).getD (readByte m b) := by
  have u0 := unit_of_long (a := a) (b := b) 0 (by simp)
  have u1 := unit_of_long (a := a) (b := b) 1 (by simp)
  have u2 := unit_of_long (a := a) (b := b) 2 (by simp)
  have u3 := unit_of_long (a := a) (b := b) 3 (by simp)
  have r0 := inRom_unit_add (k := 4) (by simp) ha (i := 0) (by simp)
  have r1 := inRom_unit_add (k := 4) (by simp) ha (i := 4) (by simp)
  have r2 := inRom_unit_add (k := 4) (by simp) ha (i := 8) (by simp)
  have r3 := inRom_unit_add (k := 4) (by simp) ha (i := 12) (by simp)
  rw [show BitVec.ofNat 17 (4 * 0) = 0#17 from rfl, BitVec.add_zero] at u0
  rw [show BitVec.ofNat 17 0 = 0#17 from rfl, BitVec.add_zero] at r0
  rw [show BitVec.ofNat 17 (4 * 1) = 4#17 from rfl] at u1
  rw [show BitVec.ofNat 17 (4 * 2) = 8#17 from rfl] at u2
  rw [show BitVec.ofNat 17 (4 * 3) = 12#17 from rfl] at u3
  unfold memWriteQuad
  have w0 := wf_memWrite4 h (alignTo 4 a) (q.rd 0#2)
  have w1 := wf_memWrite4 w0 (alignTo 4 a + 4#17) (q.rd 1#2)
  have w2 := wf_memWrite4 w1 (alignTo 4 a + 8#17) (q.rd 2#2)
  show readByte (memWrite4 (memWrite4 (memWrite4 (memWrite4 m (alignTo 4 a) _) (alignTo 4 a + 4#17) _)
    (alignTo 4 a + 8#17) _) (alignTo 4 a + 12#17) _) b = _
  rw [readByte_memWrite4 w2 r3, readByte_memWrite4 w1 r2, readByte_memWrite4 w0 r1,
    readByte_memWrite4 h r0]
  have k := quadBits_byte q (b.toNat % 16) (by omega)
  unfold storedByte
  simp only [sameUnit_iff 4, u0, u1, u2, u3, show (2 : Nat) ^ 4 = 16 from rfl,
    show (2 : Nat) ^ 2 = 4 from rfl, k]
  have m4 : b.toNat % 16 % 4 = b.toNat % 4 := by omega
  have : b.toNat % 16 / 4 = 0 ∨ b.toNat % 16 / 4 = 1 ∨ b.toNat % 16 / 4 = 2 ∨
      b.toNat % 16 / 4 = 3 := by omega
  by_cases hu : b.toNat / 16 = a.toNat / 16 <;> rcases this with p | p | p | p <;> simp [hu, p, m4]

end Sys2Proof.Machine
end

