-- ==== Sys2Proof/Machine/Parametric.lean ====
section
/-!
DEFINITION. The machine with the open parameters of the spec as arguments (00_scope.md rule R6): what
an instruction does and what a step does under any parameters, and the state at which the machine starts
for any `BootState` (70_reset_and_hazards.md rule R760, D2). With the spec's defaults these are `exec`,
`step` and `State.reset` (Sys2Proof/Laws/Parametric.lean).
-/
namespace Sys2Proof.Machine

/-! ### Instructions and steps under any parameters -/

/-- What an instruction does under the parameters `P` (R6). -/
def execWith (P : Params) (i : Instr) (s : State) : Result :=
  match i with
  | .wrbyte o => execWrbyte o s P
  | .rdbyte o => execRdbyte o s P
  | .rdbytec o => execRdbytec o s P
  | .wrword o => execWrword o s P
  | .rdword o => execRdword o s P
  | .rdwordc o => execRdwordc o s P
  | .wrlong o => execWrlong o s P
  | .rdlong o => execRdlong o s P
  | .rdlongc o => execRdlongc o s P
  | .coginit o => execCoginit o s P
  | .clkset o => execClkset o s P
  | .cogid o => execCogid o s P
  | .cogstop o => execCogstop o s P
  | .locknew o => execLocknew o s P
  | .lockret o => execLockret o s P
  | .lockset o => execLockset o s P
  | .lockclr o => execLockclr o s P
  | .cachex o => execCachex o s P
  | .clracca o => execClracca o s P
  | .clraccb o => execClraccb o s P
  | .clraccs o => execClraccs o s P
  | .fitacca o => execFitacca o s P
  | .fitaccb o => execFitaccb o s P
  | .fitaccs o => execFitaccs o s P
  | .sndser o => execSndser o s P
  | .rcvser o => execRcvser o s P
  | .pushzc o => execPushzc o s P
  | .popzc o => execPopzc o s P
  | .subcnt o => execSubcnt o s P
  | .getcnt o => execGetcnt o s P
  | .getacca o => execGetacca o s P
  | .getaccb o => execGetaccb o s P
  | .getlfsr o => execGetlfsr o s P
  | .gettops o => execGettops o s P
  | .getptra o => execGetptra o s P
  | .getptrb o => execGetptrb o s P
  | .getpix o => execGetpix o s P
  | .chkspd o => execChkspd o s P
  | .getspd o => execGetspd o s P
  | .chkspa o => execChkspa o s P
  | .getspa o => execGetspa o s P
  | .chkspb o => execChkspb o s P
  | .getspb o => execGetspb o s P
  | .popar o => execPopar o s P
  | .popbr o => execPopbr o s P
  | .popa o => execPopa o s P
  | .popb o => execPopb o s P
  | .reta o => execReta o s P
  | .retb o => execRetb o s P
  | .retad o => execRetad o s P
  | .retbd o => execRetbd o s P
  | .decod5 o => execDecod5 o s P
  | .decod4 o => execDecod4 o s P
  | .decod3 o => execDecod3 o s P
  | .decod2 o => execDecod2 o s P
  | .blmask o => execBlmask o s P
  | .not o => execNot o s P
  | .onecnt o => execOnecnt o s P
  | .zercnt o => execZercnt o s P
  | .incpat o => execIncpat o s P
  | .decpat o => execDecpat o s P
  | .bingry o => execBingry o s P
  | .grybin o => execGrybin o s P
  | .mergew o => execMergew o s P
  | .splitw o => execSplitw o s P
  | .seussf o => execSeussf o s P
  | .seussr o => execSeussr o s P
  | .getphsa o => execGetphsa o s P
  | .getphza o => execGetphza o s P
  | .getcosa o => execGetcosa o s P
  | .getsina o => execGetsina o s P
  | .getphsb o => execGetphsb o s P
  | .getphzb o => execGetphzb o s P
  | .getcosb o => execGetcosb o s P
  | .getsinb o => execGetsinb o s P
  | .jmptask o => execJmptask o s P
  | .nopx o => execNopx o s P
  | .setzc o => execSetzc o s P
  | .setspa o => execSetspa o s P
  | .setspb o => execSetspb o s P
  | .addspa o => execAddspa o s P
  | .addspb o => execAddspb o s P
  | .subspa o => execSubspa o s P
  | .subspb o => execSubspb o s P
  | .pushar o => execPushar o s P
  | .pushbr o => execPushbr o s P
  | .pusha o => execPusha o s P
  | .pushb o => execPushb o s P
  | .calla o => execCalla o s P
  | .callb o => execCallb o s P
  | .callad o => execCallad o s P
  | .callbd o => execCallbd o s P
  | .wrquad o => execWrquad o s P
  | .rdquad o => execRdquad o s P
  | .rdquadc o => execRdquadc o s P
  | .setptra o => execSetptra o s P
  | .setptrb o => execSetptrb o s P
  | .addptra o => execAddptra o s P
  | .addptrb o => execAddptrb o s P
  | .subptra o => execSubptra o s P
  | .subptrb o => execSubptrb o s P
  | .setpix o => execSetpix o s P
  | .setpixu o => execSetpixu o s P
  | .setpixv o => execSetpixv o s P
  | .setpixz o => execSetpixz o s P
  | .setpixa o => execSetpixa o s P
  | .setpixr o => execSetpixr o s P
  | .setpixg o => execSetpixg o s P
  | .setpixb o => execSetpixb o s P
  | .settask o => execSettask o s P
  | .cfgdac0 o => execCfgdac0 o s P
  | .cfgdac1 o => execCfgdac1 o s P
  | .cfgdac2 o => execCfgdac2 o s P
  | .cfgdac3 o => execCfgdac3 o s P
  | .setdac0 o => execSetdac0 o s P
  | .setdac1 o => execSetdac1 o s P
  | .setdac2 o => execSetdac2 o s P
  | .setdac3 o => execSetdac3 o s P
  | .cfgdacs o => execCfgdacs o s P
  | .setdacs o => execSetdacs o s P
  | .getp o => execGetp o s P
  | .getpn o => execGetpn o s P
  | .offp o => execOffp o s P
  | .notp o => execNotp o s P
  | .clrp o => execClrp o s P
  | .setp o => execSetp o s P
  | .setpc o => execSetpc o s P
  | .setpnc o => execSetpnc o s P
  | .setpz o => execSetpz o s P
  | .setpnz o => execSetpnz o s P
  | .setmap o => execSetmap o s P
  | .setquad o => execSetquad o s P
  | .setquaz o => execSetquaz o s P
  | .setport o => execSetport o s P
  | .setpora o => execSetpora o s P
  | .setporb o => execSetporb o s P
  | .setporc o => execSetporc o s P
  | .setpord o => execSetpord o s P
  | .setxch o => execSetxch o s P
  | .setxfr o => execSetxfr o s P
  | .setser o => execSetser o s P
  | .setskip o => execSetskip o s P
  | .setvid o => execSetvid o s P
  | .setvidy o => execSetvidy o s P
  | .setvidi o => execSetvidi o s P
  | .setvidq o => execSetvidq o s P
  | .setctra o => execSetctra o s P
  | .setwava o => execSetwava o s P
  | .setfrqa o => execSetfrqa o s P
  | .setphsa o => execSetphsa o s P
  | .addphsa o => execAddphsa o s P
  | .subphsa o => execSubphsa o s P
  | .synctra o => execSynctra o s P
  | .capctra o => execCapctra o s P
  | .setctrb o => execSetctrb o s P
  | .setwavb o => execSetwavb o s P
  | .setfrqb o => execSetfrqb o s P
  | .setphsb o => execSetphsb o s P
  | .addphsb o => execAddphsb o s P
  | .subphsb o => execSubphsb o s P
  | .synctrb o => execSynctrb o s P
  | .capctrb o => execCapctrb o s P
  | .isob o => execIsob o s P
  | .notb o => execNotb o s P
  | .clrb o => execClrb o s P
  | .setb o => execSetb o s P
  | .setbc o => execSetbc o s P
  | .setbnc o => execSetbnc o s P
  | .setbz o => execSetbz o s P
  | .setbnz o => execSetbnz o s P
  | .setacca o => execSetacca o s P
  | .setaccb o => execSetaccb o s P
  | .maca o => execMaca o s P
  | .macb o => execMacb o s P
  | .mul o => execMul o s P
  | .scl o => execScl o s P
  | .setindaAddr o => execSetindaAddr o s
  | .setindaDelta o => execSetindaDelta o s
  | .setindbAddr o => execSetindbAddr o s
  | .setindbDelta o => execSetindbDelta o s
  | .setindsAddrAddr o => execSetindsAddrAddr o s
  | .setindsAddrDelta o => execSetindsAddrDelta o s
  | .setindsDeltaAddr o => execSetindsDeltaAddr o s
  | .setindsDeltaDelta o => execSetindsDeltaDelta o s
  | .fixinda o => execFixinda o s
  | .fixindb o => execFixindb o s
  | .fixinds o => execFixinds o s
  | .enc o => execEnc o s P
  | .jmpret o => execJmpret o s P
  | .ror o => execRor o s P
  | .rol o => execRol o s P
  | .shr o => execShr o s P
  | .shl o => execShl o s P
  | .rcr o => execRcr o s P
  | .rcl o => execRcl o s P
  | .sar o => execSar o s P
  | .rev o => execRev o s P
  | .mins o => execMins o s P
  | .maxs o => execMaxs o s P
  | .min o => execMin o s P
  | .max o => execMax o s P
  | .movs o => execMovs o s P
  | .movd o => execMovd o s P
  | .movi o => execMovi o s P
  | .jmpretd o => execJmpretd o s P
  | .and o => execAnd o s P
  | .andn o => execAndn o s P
  | .or o => execOr o s P
  | .xor o => execXor o s P
  | .muxc o => execMuxc o s P
  | .muxnc o => execMuxnc o s P
  | .muxz o => execMuxz o s P
  | .muxnz o => execMuxnz o s P
  | .add o => execAdd o s P
  | .sub o => execSub o s P
  | .addabs o => execAddabs o s P
  | .subabs o => execSubabs o s P
  | .sumc o => execSumc o s P
  | .sumnc o => execSumnc o s P
  | .sumz o => execSumz o s P
  | .sumnz o => execSumnz o s P
  | .mov o => execMov o s P
  | .neg o => execNeg o s P
  | .abs o => execAbs o s P
  | .absneg o => execAbsneg o s P
  | .negc o => execNegc o s P
  | .negnc o => execNegnc o s P
  | .negz o => execNegz o s P
  | .negnz o => execNegnz o s P
  | .cmps o => execCmps o s P
  | .cmpsx o => execCmpsx o s P
  | .addx o => execAddx o s P
  | .subx o => execSubx o s P
  | .adds o => execAdds o s P
  | .subs o => execSubs o s P
  | .addsx o => execAddsx o s P
  | .subsx o => execSubsx o s P
  | .subr o => execSubr o s P
  | .cmpsub o => execCmpsub o s P
  | .incmod o => execIncmod o s P
  | .decmod o => execDecmod o s P
  | .ijz o => execIjz o s P
  | .ijzd o => execIjzd o s P
  | .ijnz o => execIjnz o s P
  | .ijnzd o => execIjnzd o s P
  | .djz o => execDjz o s P
  | .djzd o => execDjzd o s P
  | .djnz o => execDjnz o s P
  | .djnzd o => execDjnzd o s P
  | .tjz o => execTjz o s P
  | .tjzd o => execTjzd o s P
  | .tjnz o => execTjnz o s P
  | .tjnzd o => execTjnzd o s P
  | .cfgpins o => execCfgpins o s P
  | .waitvid o => execWaitvid o s P
  | .waitcnt o => execWaitcnt o s P
  | .waitpeq o => execWaitpeq o s P
  | .waitpne o => execWaitpne o s P
  | .setindaOld o => execSetindaOld o s P
  | .setindbOld o => execSetindbOld o s P
  | .setcog o => execSetcog o s P
  | .reps o => execReps o s P
  | .repd o => execRepd o s P
  | .getmull o => execGetmull o s P
  | .getmulh o => execGetmulh o s P
  | .getdivq o => execGetdivq o s P
  | .getdivr o => execGetdivr o s P
  | .getsqrt o => execGetsqrt o s P
  | .getqx o => execGetqx o s P
  | .getqy o => execGetqy o s P
  | .getqz o => execGetqz o s P
  | .polctra o => execPolctra o s P
  | .polctrb o => execPolctrb o s P
  | .polvid o => execPolvid o s P
  | .passcnt o => execPasscnt o s P
  | .jp o => execJp o s P
  | .jnp o => execJnp o s P
  | .nop => execNop s
  | .jmp o => execJmp o s P
  | .jmpd o => execJmpd o s P
  | .call o => execCall o s P
  | .ret o => execRet o s P
  | .calld o => execCalld o s P
  | .retd o => execRetd o s P

/-- One step of the machine under the parameters `P` (R6). -/
noncomputable def stepWith (P : Params) (s : State) : Result := cogStep s P (execWith P)

/-! ### The start of the machine -/

/-- `BootState` (R760, D2): the state in which the first instruction runs. -/
structure BootState where
  /-- HUB RAM contents; what is listed for ROM counts for nothing -/
  ram    : List Host.Cell
  /-- LOCK[k].state, LOCK[k].taken -/
  locks  : Bank 3 Lock
  /-- CLK -/
  clk    : BitVec 9
  /-- CNT -/
  cnt    : BitVec 64
  /-- PINCFG[p] -/
  pinCfg : Bank 7 (BitVec 13)
  /-- for each COG: idle, or just started with the program at `a` and the parameter `p` -/
  cogs   : Bank 3 (Option (HubAddress × HubAddress))
  /-- for each COG, the values of what R54 leaves unspecified -/
  open_  : Bank 3 Cog
  /-- what the environment shows in the first step -/
  inputs : Inputs
  /-- the COG that steps first (R90) -/
  turn   : CogId

/-- The register RAM after a COG start has read its $1F8 longs from the block at `a` (R241). -/
def loadedRam (m : List Host.Cell) (a : HubAddress) (r : Bank 9 Word) : Bank 9 Word :=
  allLoads.foldl (fun r k => r.wr k (memRead4 m (a + (k.setWidth 17 <<< 2)))) r

/-- A COG at boot (R760): no counter of it has been started and no video generator used. -/
def bootCog (m : List Host.Cell) (free : Cog) : Option (HubAddress × HubAddress) → Cog
  | none => { keepUses resetCog free with run := .idle, stalled := false, held := none }
  | some (a, p) =>
    { startFrom (keepUses resetCog free) (alignTo 2 a) p with
      run := .running, ram := loadedRam m (alignTo 2 a) free.ram }

/-- The machine at the boot state `b` (R760). -/
def State.boot (b : BootState) : State where
  mem := memoryOf b.ram
  locks := b.locks
  clk := b.clk
  cnt := b.cnt
  pinCfg := b.pinCfg
  cogs := Vector.ofFn fun n => bootCog (memoryOf b.ram) b.open_[n] b.cogs[n]
  inputs := b.inputs
  turn := b.turn
  tick := 0

/-- The default of D2, with the model's choices where it leaves a value open (notes/assumptions/1.md to
4.md, 9.md): COG 0 alone, started with the program at the first address of HUB RAM and p = 0. -/
def BootState.spec : BootState where
  ram := []
  locks := State.reset.locks
  clk := State.reset.clk
  cnt := State.reset.cnt
  pinCfg := State.reset.pinCfg
  cogs := Bank.wr (Vector.replicate _ none) 0#3 (some (0x00E80#17, 0#17))
  open_ := Vector.replicate _ resetCog
  inputs := State.reset.inputs
  turn := State.reset.turn

end Sys2Proof.Machine
end

