-- ==== Sys2Proof/Laws/Parametric.lean ====
section
/-!
SUPPORT. At the spec's defaults the parameters are the functions of Sys2Proof/Machine/Params.lean, and
the machine with parameters is the machine (00_scope.md rule R6).
-/
namespace Sys2Proof.Machine

@[simp] theorem paramsSpec_condTable : Params.spec.condTable = condHolds := rfl
@[simp] theorem paramsSpec_mulFn : Params.spec.mulFn = mulFn := rfl
@[simp] theorem paramsSpec_sclFn : Params.spec.sclFn = sclFn := rfl
@[simp] theorem paramsSpec_macFn : Params.spec.macFn = macFn := rfl
@[simp] theorem paramsSpec_encFn : Params.spec.encFn = encFn := rfl
@[simp] theorem paramsSpec_blmaskFn : Params.spec.blmaskFn = blmaskFn := rfl
@[simp] theorem paramsSpec_incpatFn : Params.spec.incpatFn = incpatFn := rfl
@[simp] theorem paramsSpec_decpatFn : Params.spec.decpatFn = decpatFn := rfl
@[simp] theorem paramsSpec_seussF : Params.spec.seussF = seussF := rfl
@[simp] theorem paramsSpec_seussR : Params.spec.seussR = seussR := rfl
@[simp] theorem paramsSpec_fitCount : Params.spec.fitCount = fitCount := rfl
@[simp] theorem paramsSpec_nextIdleCog : Params.spec.nextIdleCog = lowestWhere := rfl
@[simp] theorem paramsSpec_nextFreeLock : Params.spec.nextFreeLock = lowestWhere := rfl
@[simp] theorem paramsSpec_topsOrder : Params.spec.topsOrder = topBytes := rfl
@[simp] theorem paramsSpec_callDReturnOffset : Params.spec.callDReturnOffset = callDReturnOffset := rfl
@[simp] theorem paramsSpec_minMaxZ (s r : Word) : Params.spec.minMaxZ s r = minMaxZ s := rfl
@[simp] theorem paramsSpec_waitPort : Params.spec.waitPort = waitPort := rfl
@[simp] theorem paramsSpec_romWrite : Params.spec.romWrite = .refuse := rfl

/-- Under the spec's parameters an instruction does what `exec` says. -/
theorem execWith_spec (i : Instr) (s : State) : execWith .spec i s = exec i s := by cases i <;> rfl

/-- Under the spec's parameters a step is `step`. -/
theorem stepWith_spec (s : State) : stepWith .spec s = step s := by
  have h : execWith .spec = exec := funext fun i => funext fun s => execWith_spec i s
  rw [stepWith, h]; rfl

/-- Under the policy that says so a write to ROM leaves the COG stuck, and memory as it was (R87). -/
theorem hubStore_stuck {P : Params} (h : P.romWrite = .stuck) {ea : HubAddress} (hr : inRom ea = true)
    (m : List Host.Cell) (s : State) :
    hubStore (P := P) ea m s = .next (s.setCog { s.cog with run := .stuck }) := by
  simp [hubStore, hr, h]

/-- A stuck COG lets only time pass, whatever the pins do (R87). -/
theorem stepWith_stuck (P : Params) {s : State} (h : s.cog.run = .stuck) :
    stepWith P s = .next (finish s) ∧ (finish s).cogs = s.cogs := by
  constructor
  · simp [stepWith, cogStep, h]
  · rfl

/-- Every address of HUB RAM that memory does not list reads as 0. -/
theorem memRead4_empty {a : HubAddress} (h : ramStart ≤ (alignTo 2 a).toNat)
    (h2 : (alignTo 2 a).toNat + 3 < 2 ^ 17) : memRead4 [] a = 0#32 := by
  have e : ∀ i < 4, readByte [] (alignTo 2 a + BitVec.ofNat 17 i) = 0#8 := by
    intro i hi
    have : ramStart ≤ (alignTo 2 a + BitVec.ofNat 17 i).toNat := by
      rw [BitVec.toNat_add, BitVec.toNat_ofNat]; unfold ramStart at *; omega
    have hr : ¬ (alignTo 2 a + BitVec.ofNat 17 i).toNat < ramStart := by omega
    have hl : ¬ (alignTo 2 a + BitVec.ofNat 17 i).toNat < 0x20 := by unfold ramStart at *; omega
    rw [readByte, cellLookup, Option.getD_none, unlistedByte, if_neg hl, if_neg hr]
  have e0 := e 0 (by decide)
  simp only [BitVec.add_zero] at e0
  simp only [memRead4, e 1 (by decide), e 2 (by decide), e 3 (by decide), e0]
  rfl

/-- A load from the start of empty HUB RAM leaves zeros. -/
theorem loadedRam_empty : loadedRam [] 0x00E80#17 (Vector.replicate _ 0#32) = Vector.replicate _ 0#32 := by
  have z : ∀ k ∈ allLoads, memRead4 [] (0x00E80#17 + (k.setWidth 17 <<< 2)) = 0#32 := by
    intro k hk
    obtain ⟨n, hn, rfl⟩ := List.mem_map.mp hk
    have hn : n < 0x1F8 := List.mem_range.mp hn
    have hv : (0x00E80#17 + ((BitVec.ofNat 9 n).setWidth 17 <<< 2)).toNat = 0xE80 + 4 * n := by
      simp only [BitVec.toNat_add, BitVec.toNat_shiftLeft, BitVec.toNat_setWidth, BitVec.toNat_ofNat,
        Nat.shiftLeft_eq]
      omega
    have ha : (alignTo 2 (0x00E80#17 + ((BitVec.ofNat 9 n).setWidth 17 <<< 2))).toNat = 0xE80 + 4 * n := by
      simp only [alignTo, BitVec.toNat_shiftLeft, BitVec.toNat_ushiftRight, hv, Nat.shiftLeft_eq,
        Nat.shiftRight_eq_div_pow]
      omega
    exact memRead4_empty (by rw [ha]; unfold ramStart; omega) (by rw [ha]; omega)
  have w : ∀ k : RegAddr, Bank.wr (Vector.replicate _ 0#32) k 0#32 = Vector.replicate (2 ^ 9) 0#32 := by
    intro k
    apply Bank.ext
    intro i
    rw [Bank.rd_wr]
    split <;> simp [Bank.rd]
  unfold loadedRam
  generalize allLoads = l at z
  induction l with
  | nil => rfl
  | cons k l ih =>
    rw [List.foldl_cons, z k (by simp), w]
    exact ih fun j hj => z j (by simp [hj])

/-- The default boot state is the state after reset. -/
theorem boot_spec : State.boot .spec = State.reset := by
  have h0 : bootCog [] resetCog (some (0x00E80#17, 0#17)) =
      { resetCog with run := .running, ptrb := 0x00E80#17 } := by
    have ha : alignTo 2 0x00E80#17 = 0x00E80#17 := by decide
    have hr : resetCog.ram = Vector.replicate _ 0#32 := rfl
    simp only [bootCog, ha, hr, loadedRam_empty]
    rfl
  have h1 : bootCog [] resetCog none = resetCog := rfl
  have hc : (State.boot .spec).cogs = State.reset.cogs := by
    apply Bank.ext
    intro i
    have e : (State.boot .spec).cogs.rd i = bootCog [] resetCog (BootState.spec.cogs.rd i) := by
      simp [State.boot, Bank.rd, BootState.spec, memoryOf]
    rw [e]
    show bootCog [] resetCog ((Bank.wr _ _ _).rd i) = (Bank.wr _ _ _).rd i
    rw [Bank.rd_wr, Bank.rd_wr]
    split
    · exact h0
    · simp only [Bank.rd, Vector.getElem_replicate]; exact h1
  have : State.boot .spec = { State.reset with cogs := (State.boot .spec).cogs } := rfl
  rw [this, hc]

end Sys2Proof.Machine
end

