-- ==== Sys2Proof/Laws/Waits.lean ====
section
/-!
SUPPORT. What the shared operations of the waiting instructions give: the operands that count, and
when a WAITCNT is over (48_branch_wait.md rules R595, R596).
-/
namespace Sys2Proof.Machine

@[simp] theorem stallWith_cog (h : Held) (s : State) :
    (stallWith h s).cog = { s.cog with stalled := true, held := some h } := State.setCog_cog _ _

@[simp] theorem stall_cog (s : State) : (stall s).cog = { s.cog with stalled := true } :=
  State.setCog_cog _ _

/-- At the first try the operands of now count. -/
theorem heldOr_none {s : State} (h : s.cog.held = none) (dv sv : Word) (half : Option Bool) :
    heldOr s dv sv half = ⟨dv, sv, half⟩ := by simp [heldOr, h]

/-- At every later try those taken along count, whatever the registers hold now. -/
theorem heldOr_some {s : State} {x : Held} (h : s.cog.held = some x) (dv sv : Word)
    (half : Option Bool) : heldOr s dv sv half = x := by simp [heldOr, h]

/-- The pin waits test the port of PINA (R597, D43). -/
theorem pinsUnder_spec (s : State) (sv : Word) :
    pinsUnder s sv = portWindow s.inputs.pinIn (s.cog.por.rd 0#2) &&& sv := rfl

/-- The half of CNT that a WAITCNT tests, `k` clocks after `cnt`. -/
theorem cntHalf_eq (cnt : BitVec 64) (k o : Nat) (target : Word) :
    (cnt + BitVec.ofNat 64 k).extractLsb' o 32 = target ↔
      (cnt.toNat + k) % 2 ^ 64 / 2 ^ o % 2 ^ 32 = target.toNat := by
  rw [← BitVec.toNat_inj, BitVec.extractLsb'_toNat, BitVec.toNat_add, BitVec.toNat_ofNat,
    Nat.shiftRight_eq_div_pow, Nat.add_mod_mod]

/-- `clocksUntil` is the number of clocks after which the half of CNT first equals the target (R596). -/
theorem clocksUntil_spec (high : Bool) (cnt : BitVec 64) (target : Word) :
    (cnt + BitVec.ofNat 64 (clocksUntil high cnt target)).extractLsb' (if high then 32 else 0) 32 =
      target ∧
    ∀ k < clocksUntil high cnt target,
      (cnt + BitVec.ofNat 64 k).extractLsb' (if high then 32 else 0) 32 ≠ target := by
  have hs := cnt.isLt
  have ht := target.isLt
  simp only [ne_eq, cntHalf_eq]
  cases high
  · have away : (target - cnt.extractLsb' 0 32).toNat =
        (2 ^ 32 - cnt.toNat % 2 ^ 32 + target.toNat) % 2 ^ 32 := by
      rw [BitVec.toNat_sub, BitVec.extractLsb'_toNat]; simp
    simp only [clocksUntil, Bool.false_eq_true, if_false, away]
    exact ⟨by omega, fun k hk => by omega⟩
  · have hh : cnt.extractLsb' 32 32 = target ↔ cnt.toNat / 2 ^ 32 % 2 ^ 32 = target.toNat := by
      rw [← BitVec.toNat_inj, BitVec.extractLsb'_toNat, Nat.shiftRight_eq_div_pow]
    have away : (target ++ 0#32 - cnt).toNat =
        (2 ^ 64 - cnt.toNat + target.toNat * 2 ^ 32) % 2 ^ 64 := by
      rw [BitVec.toNat_sub, BitVec.toNat_append]; simp [Nat.shiftLeft_eq]
    simp only [clocksUntil, if_true]
    by_cases h0 : cnt.extractLsb' 32 32 = target
    · rw [if_pos h0]
      rw [hh] at h0
      exact ⟨by omega, fun k hk => by omega⟩
    · rw [if_neg h0, away]
      rw [hh] at h0
      exact ⟨by omega, fun k hk => by omega⟩

theorem clocksUntil_eq_zero (high : Bool) (cnt : BitVec 64) (target : Word) :
    clocksUntil high cnt target = 0 ↔ cnt.extractLsb' (if high then 32 else 0) 32 = target := by
  have h := clocksUntil_spec high cnt target
  constructor
  · intro e; simpa [e] using h.1
  · intro e
    by_contra n
    exact h.2 0 (Nat.pos_of_ne_zero n) (by simpa using e)

/-- No more clocks pass than asked for, and no more than any WAITCNT still waits for (R596, R791). -/
theorem clocksThatPass_le (most : Nat) (s : State) :
    clocksThatPass most s ≤ most ∧
    ∀ (n : CogId) (k : Nat), clocksAwaited s.cnt (s.cogs.rd n) = some k → clocksThatPass most s ≤ k := by
  have fold : ∀ (l : List Nat) (m : Nat), l.foldl min m ≤ m ∧ ∀ k ∈ l, l.foldl min m ≤ k := by
    intro l
    induction l with
    | nil => simp
    | cons a l ih =>
      intro m
      obtain ⟨h1, h2⟩ := ih (min m a)
      refine ⟨le_trans h1 (min_le_left _ _), fun k hk => ?_⟩
      rcases List.mem_cons.mp hk with rfl | hk
      · exact le_trans h1 (min_le_right _ _)
      · exact h2 k hk
  refine ⟨(fold _ _).1, fun n k h => (fold _ _).2 k (List.mem_filterMap.mpr ⟨n.toNat, ?_, ?_⟩)⟩
  · exact List.mem_range.mpr n.isLt
  · rw [BitVec.ofNat_toNat, BitVec.setWidth_eq]; exact h

end Sys2Proof.Machine
end

