-- ==== Sys2Proof/Tests/Slice0.lean ====
section
/-!
SUPPORT. Tests: ill-formed terms that `wellFormed` refuses; a word for every constructor that has
words, with the instruction it stands for; single steps with the results of the spec's worked
examples; and for every statement with hypotheses a state and operands that meet them.
-/
namespace Sys2Proof.Tests

open Sys2Proof Sys2Proof.Machine

set_option Elab.async false

/-! ### Ill-formed terms -/

def refusedAll (l : List Instr) : Bool := l.all fun i => !i.wellFormed

theorem test_wf_refuses_direct_indirect_register_as_d : refusedAll
    [.wrbyte ⟨15#4, .dir 0x1F7#9, .reg (.dir 0x011#9)⟩,
     .rdbyte ⟨true, 15#4, .dir 0x1F7#9, .reg (.dir 0x011#9)⟩,
     .coginit ⟨true, true, true, 15#4, .dir 0x1F7#9, .dir 0x011#9⟩,
     .clkset ⟨15#4, .dir 0x1F7#9⟩,
     .lockset ⟨true, 15#4, .dir 0x1F7#9⟩,
     .gettops ⟨true, 15#4, .dir 0x1F7#9⟩,
     .locknew ⟨true, true, 15#4, .dir 0x1F7#9⟩,
     .subcnt ⟨true, true, 15#4, .dir 0x1F7#9⟩,
     .pushzc ⟨true, true, true, 15#4, .dir 0x1F7#9⟩,
     .isob ⟨true, true, 15#4, .dir 0x1F7#9, 0#5⟩,
     .nopx ⟨15#4, .reg (.dir 0x1F7#9)⟩,
     .setzc ⟨true, true, 15#4, .reg (.dir 0x1F7#9)⟩,
     .jmptask ⟨15#4, .reg (.dir 0x1F7#9), 1#4⟩,
     .wrquad ⟨15#4, .reg (.dir 0x1F7#9)⟩,
     .setacca ⟨15#4, .dir 0x1F7#9, .imm 0#9⟩,
     .mul ⟨true, 15#4, .dir 0x1F7#9, .imm 0#9⟩,
     .ror ⟨true, true, true, 15#4, .dir 0x1F7#9, .imm 0#9⟩,
     .enc ⟨true, true, 15#4, .dir 0x1F7#9, .imm 0#9⟩,
     .ijz ⟨true, 15#4, .dir 0x1F7#9, .imm 0#9⟩,
     .waitcnt ⟨true, true, 15#4, .dir 0x1F7#9, .imm 0#9⟩,
     .reps ⟨15#4, .reg (.dir 0x1F7#9), 1#5⟩,
     .call ⟨15#4, .dir 0x1F7#9, 0#9⟩] = true := by decide

theorem test_wf_refuses_direct_indirect_register_as_s : refusedAll
    [.wrlong ⟨15#4, .dir 0x010#9, .reg (.dir 0x1F6#9)⟩,
     .rdlong ⟨true, 15#4, .dir 0x010#9, .reg (.dir 0x1F6#9)⟩,
     .coginit ⟨true, true, true, 15#4, .dir 0x010#9, .dir 0x1F6#9⟩,
     .maca ⟨15#4, .dir 0x010#9, .reg (.dir 0x1F6#9)⟩,
     .mul ⟨true, 15#4, .dir 0x010#9, .reg (.dir 0x1F6#9)⟩,
     .add ⟨true, true, true, 15#4, .dir 0x010#9, .reg (.dir 0x1F6#9)⟩,
     .movs ⟨true, true, 15#4, .dir 0x010#9, .reg (.dir 0x1F6#9)⟩,
     .djnz ⟨true, 15#4, .dir 0x010#9, .reg (.dir 0x1F6#9)⟩,
     .waitcnt ⟨true, true, 15#4, .dir 0x010#9, .reg (.dir 0x1F6#9)⟩,
     .jmp ⟨15#4, .reg (.dir 0x1F6#9)⟩] = true := by decide

theorem test_wf_refuses_immediate_of_indirect_register : refusedAll
    [.setptra ⟨15#4, .imm 0x1F6#9⟩,
     .getp ⟨true, true, 15#4, .imm 0x1F7#9⟩,
     .jmptask ⟨15#4, .imm 0x1F6#9, 1#4⟩,
     .reps ⟨15#4, .imm 0x1F7#9, 1#5⟩] = true := by decide

theorem test_wf_refuses_condition_beside_reference : refusedAll
    [.wrbyte ⟨10#4, .ind .b 1#2, .reg (.dir 0x011#9)⟩,
     .rdbyte ⟨true, 10#4, .ind .b 1#2, .reg (.dir 0x011#9)⟩,
     .coginit ⟨true, true, true, 10#4, .ind .b 1#2, .dir 0x011#9⟩,
     .clkset ⟨10#4, .ind .b 1#2⟩,
     .lockset ⟨true, 10#4, .ind .b 1#2⟩,
     .gettops ⟨true, 10#4, .ind .b 1#2⟩,
     .locknew ⟨true, true, 10#4, .ind .b 1#2⟩,
     .subcnt ⟨true, true, 10#4, .ind .b 1#2⟩,
     .pushzc ⟨true, true, true, 10#4, .ind .b 1#2⟩,
     .isob ⟨true, true, 10#4, .ind .b 1#2, 0#5⟩,
     .nopx ⟨10#4, .reg (.ind .b 1#2)⟩,
     .setzc ⟨true, true, 10#4, .reg (.ind .b 1#2)⟩,
     .jmptask ⟨10#4, .reg (.ind .b 1#2), 1#4⟩,
     .wrquad ⟨10#4, .reg (.ind .b 1#2)⟩,
     .setacca ⟨10#4, .ind .b 1#2, .imm 0#9⟩,
     .mul ⟨true, 10#4, .ind .b 1#2, .imm 0#9⟩,
     .ror ⟨true, true, true, 10#4, .ind .b 1#2, .imm 0#9⟩,
     .enc ⟨true, true, 10#4, .ind .b 1#2, .imm 0#9⟩,
     .ijz ⟨true, 10#4, .ind .b 1#2, .imm 0#9⟩,
     .waitcnt ⟨true, true, 10#4, .ind .b 1#2, .imm 0#9⟩,
     .reps ⟨10#4, .reg (.ind .b 1#2), 1#5⟩,
     .call ⟨10#4, .ind .b 1#2, 0#9⟩,
     .jmp ⟨10#4, .reg (.ind .a 0#2)⟩] = true := by decide

theorem test_wf_refuses_subr_and_cmpsub_in_the_setind_space : refusedAll
    [.subr ⟨false, false, false, 15#4, .dir 0x010#9, .reg (.dir 0x011#9)⟩,
     .cmpsub ⟨false, false, false, 15#4, .dir 0x010#9, .reg (.dir 0x011#9)⟩] = true := by decide

theorem test_wf_admits_the_same_with_an_effect : ([.subr ⟨false, false, true, 15#4, .dir 0x010#9, .reg (.dir 0x011#9)⟩,
     .cmpsub ⟨false, false, false, 15#4, .dir 0x010#9, .imm 0x011#9⟩,
     .add ⟨true, true, true, 15#4, .ind .a 1#2, .imm 0x1F6#9⟩] : List Instr).all (·.wellFormed) = true := by decide

/-! ### Decoding: words of 95_test_vectors.md and of the examples in the rules, and where the spec has
none, words written out bit by bit from the encoding row -/

/-- The word decodes to the instruction. -/
noncomputable def reads (p : Nat × Instr) : Bool :=
  match decode (BitVec.ofNat 32 p.1) with
  | .ok i => i == p.2
  | .error _ => false

/-- The word is refused, for this reason. -/
noncomputable def refuses (p : Nat × DecodeError) : Bool :=
  match decode (BitVec.ofNat 32 p.1) with
  | .ok _ => false
  | .error e => e == p.2

theorem test_decode_1 : ([
    (0x003C2011, .wrbyte ⟨15#4, .dir 0x010#9, .reg (.dir 0x011#9)⟩),
    (0x02BC2011, .rdbyte ⟨true, 15#4, .dir 0x010#9, .reg (.dir 0x011#9)⟩),
    (0x01FC20C1, .rdbytec ⟨false, 15#4, .dir 0x010#9, .ptr ⟨false, true, true, 1#6⟩⟩),
    (0x05BC2011, .rdwordc ⟨false, 15#4, .dir 0x010#9, .reg (.dir 0x011#9)⟩),
    (0x087C2003, .wrlong ⟨15#4, .dir 0x010#9, .ptr ⟨false, false, false, 3#6⟩⟩),
    (0x0D7C20B1, .rdquadc ⟨15#4, .reg (.dir 0x010#9)⟩),
    (0x0DFC00B1, .rdquadc ⟨15#4, .ptr ⟨false, false, false, 0#6⟩⟩),
    (0x0CFC2012, .getptra ⟨false, false, true, 15#4, .dir 0x010#9⟩),
    (0x0DFC2013, .getptrb ⟨false, true, true, 15#4, .dir 0x010#9⟩),
    (0x0C7C20B2, .setptra ⟨15#4, .reg (.dir 0x010#9)⟩),
    (0x0CFFFEB3, .setptrb ⟨15#4, .imm 0x1FF#9⟩),
    (0x0CFC08B4, .addptra ⟨15#4, .imm 0x004#9⟩),
    (0x0C7C20B5, .addptrb ⟨15#4, .reg (.dir 0x010#9)⟩),
    (0x0CFC02B6, .subptra ⟨15#4, .imm 0x001#9⟩),
    (0x0CFC20B7, .subptrb ⟨15#4, .imm 0x010#9⟩),
    (0x0CFC2011, .gettops ⟨false, 15#4, .dir 0x010#9⟩),
    (0x0CFE00E2, .setquad ⟨15#4, .imm 0x100#9⟩),
    (0x0DFFF0E2, .setquaz ⟨15#4, .imm 0x1F8#9⟩),
    (0x0C3C2011, .coginit ⟨false, false, false, 15#4, .dir 0x010#9, .dir 0x011#9⟩),
    (0x0CFC2001, .cogid ⟨15#4, .dir 0x010#9⟩),
    (0x0C7C2003, .cogstop ⟨15#4, .dir 0x010#9⟩),
    (0x0C7C2000, .clkset ⟨15#4, .dir 0x010#9⟩),
    (0x0DFC2004, .locknew ⟨false, true, 15#4, .dir 0x010#9⟩),
    (0x0C7C2005, .lockret ⟨15#4, .dir 0x010#9⟩),
    (0x0D7C2006, .lockset ⟨true, 15#4, .dir 0x010#9⟩),
    (0x0C7C2007, .lockclr ⟨false, 15#4, .dir 0x010#9⟩),
    (0xE00C01FF, .setindaDelta ⟨0x1FF#9⟩),
    (0xE013E000, .setindbAddr ⟨0x1F0#9⟩),
    (0xE0140E09, .setindsAddrAddr ⟨0x007#9, 0x009#9⟩),
    (0xE0340420, .setindsDeltaAddr ⟨0x002#9, 0x020#9⟩),
    (0xE03FFE01, .setindsDeltaDelta ⟨0x1FF#9, 0x001#9⟩),
    (0x0CFD00A2, .setspa ⟨15#4, .imm 0x080#9⟩),
    (0x0CFC00A3, .setspb ⟨15#4, .imm 0x000#9⟩),
    (0x0CFC08A4, .addspa ⟨15#4, .imm 0x004#9⟩),
    (0x0C7C20A5, .addspb ⟨15#4, .reg (.dir 0x010#9)⟩),
    (0x0CFC02A6, .subspa ⟨15#4, .imm 0x001#9⟩)] :
    List (Nat × Instr)).all reads = true := by decide +kernel

theorem test_decode_2 : ([
    (0x0CFC04A7, .subspb ⟨15#4, .imm 0x002#9⟩),
    (0x0F7C0015, .chkspd ⟨true, true, 15#4⟩),
    (0x0FFC2015, .getspd ⟨true, true, 15#4, .dir 0x010#9⟩),
    (0x0E7C0016, .chkspa ⟨true, false, 15#4⟩),
    (0x0CFC2016, .getspa ⟨false, false, 15#4, .dir 0x010#9⟩),
    (0x0D7C0017, .chkspb ⟨false, true, 15#4⟩),
    (0x0CFC2017, .getspb ⟨false, false, 15#4, .dir 0x010#9⟩),
    (0x0C7C20AA, .pusha ⟨15#4, .reg (.dir 0x010#9)⟩),
    (0x0CFC0AAB, .pushb ⟨15#4, .imm 0x005#9⟩),
    (0x0C7C20A8, .pushar ⟨15#4, .reg (.dir 0x010#9)⟩),
    (0x0CFC0EA9, .pushbr ⟨15#4, .imm 0x007#9⟩),
    (0x0CFC2018, .popar ⟨false, false, 15#4, .dir 0x010#9⟩),
    (0x0CFC2019, .popbr ⟨false, false, 15#4, .dir 0x010#9⟩),
    (0x0CFC201A, .popa ⟨false, false, 15#4, .dir 0x010#9⟩),
    (0x0CFC201B, .popb ⟨false, false, 15#4, .dir 0x010#9⟩),
    (0x0CFC80AC, .calla ⟨15#4, .imm 0x040#9⟩),
    (0x0CFC80AD, .callb ⟨15#4, .imm 0x040#9⟩),
    (0x0CFC80AE, .callad ⟨15#4, .imm 0x040#9⟩),
    (0x0C7C20AF, .callbd ⟨15#4, .reg (.dir 0x010#9)⟩),
    (0x0F7C001C, .reta ⟨true, true, 15#4⟩),
    (0x0C7C001D, .retb ⟨false, false, 15#4⟩),
    (0x0C7C001E, .retad ⟨false, false, 15#4⟩),
    (0x0F7C001F, .retbd ⟨true, true, 15#4⟩),
    (0x0C7C20CB, .settask ⟨15#4, .reg (.dir 0x010#9)⟩),
    (0x0CFC809A, .jmptask ⟨15#4, .imm 0x040#9, 10#4⟩),
    (0x0CFC200D, .getcnt ⟨false, true, 15#4, .dir 0x010#9⟩),
    (0x0CFC200C, .subcnt ⟨false, true, 15#4, .dir 0x010#9⟩),
    (0x0CFC2010, .getlfsr ⟨false, true, 15#4, .dir 0x010#9⟩),
    (0x12FC2064, .mul ⟨true, 15#4, .dir 0x010#9, .imm 0x064#9⟩),
    (0x14BC2011, .scl ⟨false, 15#4, .dir 0x010#9, .reg (.dir 0x011#9)⟩),
    (0x123C2011, .maca ⟨15#4, .dir 0x010#9, .reg (.dir 0x011#9)⟩),
    (0x137C2003, .macb ⟨15#4, .dir 0x010#9, .imm 0x003#9⟩),
    (0x103C2011, .setacca ⟨15#4, .dir 0x010#9, .reg (.dir 0x011#9)⟩),
    (0x117C2000, .setaccb ⟨15#4, .dir 0x010#9, .imm 0x000#9⟩),
    (0x0CFC200E, .getacca ⟨false, true, 15#4, .dir 0x010#9⟩),
    (0x0CFC220F, .getaccb ⟨false, true, 15#4, .dir 0x011#9⟩)] :
    List (Nat × Instr)).all reads = true := by decide +kernel

theorem test_decode_3 : ([
    (0x0CFC2020, .decod5 ⟨false, true, 15#4, .dir 0x010#9⟩),
    (0x0EFC2026, .onecnt ⟨true, true, 15#4, .dir 0x010#9⟩),
    (0x0FFC200A, .pushzc ⟨true, true, true, 15#4, .dir 0x010#9⟩),
    (0x0FFC200B, .popzc ⟨true, true, true, 15#4, .dir 0x010#9⟩),
    (0x0FFC04A1, .setzc ⟨true, true, 15#4, .imm 0x002#9⟩),
    (0x0E7C211F, .isob ⟨true, false, 15#4, .dir 0x010#9, 31#5⟩),
    (0x0CFC2125, .notb ⟨false, true, 15#4, .dir 0x010#9, 5#5⟩),
    (0x0CFC2145, .clrb ⟨false, true, 15#4, .dir 0x010#9, 5#5⟩),
    (0x0CFC2165, .setb ⟨false, true, 15#4, .dir 0x010#9, 5#5⟩),
    (0x0CFC2185, .setbc ⟨false, true, 15#4, .dir 0x010#9, 5#5⟩),
    (0x0CFC21A5, .setbnc ⟨false, true, 15#4, .dir 0x010#9, 5#5⟩),
    (0x0CFC21C5, .setbz ⟨false, true, 15#4, .dir 0x010#9, 5#5⟩),
    (0x0CFC21E5, .setbnz ⟨false, true, 15#4, .dir 0x010#9, 5#5⟩),
    (0x0CFC14A0, .nopx ⟨15#4, .imm 0x00A#9⟩),
    (0x0CFC0AEB, .setskip ⟨15#4, .imm 0x005#9⟩),
    (0x1ABC2011, .enc ⟨true, true, 15#4, .dir 0x010#9, .reg (.dir 0x011#9)⟩),
    (0x22BC2011, .ror ⟨true, false, true, 15#4, .dir 0x010#9, .reg (.dir 0x011#9)⟩),
    (0x26BC2011, .rol ⟨true, false, true, 15#4, .dir 0x010#9, .reg (.dir 0x011#9)⟩),
    (0x2ABC2011, .shr ⟨true, false, true, 15#4, .dir 0x010#9, .reg (.dir 0x011#9)⟩),
    (0x2EBC2011, .shl ⟨true, false, true, 15#4, .dir 0x010#9, .reg (.dir 0x011#9)⟩),
    (0x32BC2011, .rcr ⟨true, false, true, 15#4, .dir 0x010#9, .reg (.dir 0x011#9)⟩),
    (0x36BC2011, .rcl ⟨true, false, true, 15#4, .dir 0x010#9, .reg (.dir 0x011#9)⟩),
    (0x3ABC2011, .sar ⟨true, false, true, 15#4, .dir 0x010#9, .reg (.dir 0x011#9)⟩),
    (0x3EBC2011, .rev ⟨true, false, true, 15#4, .dir 0x010#9, .reg (.dir 0x011#9)⟩),
    (0x42BC2011, .mins ⟨true, false, true, 15#4, .dir 0x010#9, .reg (.dir 0x011#9)⟩),
    (0x46BC2011, .maxs ⟨true, false, true, 15#4, .dir 0x010#9, .reg (.dir 0x011#9)⟩),
    (0x4ABC2011, .min ⟨true, false, true, 15#4, .dir 0x010#9, .reg (.dir 0x011#9)⟩),
    (0x4EBC2011, .max ⟨true, false, true, 15#4, .dir 0x010#9, .reg (.dir 0x011#9)⟩),
    (0x52BC2011, .movs ⟨true, true, 15#4, .dir 0x010#9, .reg (.dir 0x011#9)⟩),
    (0x56BC2011, .movd ⟨true, true, 15#4, .dir 0x010#9, .reg (.dir 0x011#9)⟩),
    (0x62BC2011, .and ⟨true, false, true, 15#4, .dir 0x010#9, .reg (.dir 0x011#9)⟩),
    (0x66BC2011, .andn ⟨true, false, true, 15#4, .dir 0x010#9, .reg (.dir 0x011#9)⟩),
    (0x6ABC2011, .or ⟨true, false, true, 15#4, .dir 0x010#9, .reg (.dir 0x011#9)⟩),
    (0x6EBC2011, .xor ⟨true, false, true, 15#4, .dir 0x010#9, .reg (.dir 0x011#9)⟩),
    (0x72BC2011, .muxc ⟨true, false, true, 15#4, .dir 0x010#9, .reg (.dir 0x011#9)⟩),
    (0x76BC2011, .muxnc ⟨true, false, true, 15#4, .dir 0x010#9, .reg (.dir 0x011#9)⟩)] :
    List (Nat × Instr)).all reads = true := by decide +kernel

theorem test_decode_4 : ([
    (0x7ABC2011, .muxz ⟨true, false, true, 15#4, .dir 0x010#9, .reg (.dir 0x011#9)⟩),
    (0x7EBC2011, .muxnz ⟨true, false, true, 15#4, .dir 0x010#9, .reg (.dir 0x011#9)⟩),
    (0x82BC2011, .add ⟨true, false, true, 15#4, .dir 0x010#9, .reg (.dir 0x011#9)⟩),
    (0x86BC2011, .sub ⟨true, false, true, 15#4, .dir 0x010#9, .reg (.dir 0x011#9)⟩),
    (0x8ABC2011, .addabs ⟨true, false, true, 15#4, .dir 0x010#9, .reg (.dir 0x011#9)⟩),
    (0x8EBC2011, .subabs ⟨true, false, true, 15#4, .dir 0x010#9, .reg (.dir 0x011#9)⟩),
    (0x96BC2011, .sumnc ⟨true, false, true, 15#4, .dir 0x010#9, .reg (.dir 0x011#9)⟩),
    (0x9ABC2011, .sumz ⟨true, false, true, 15#4, .dir 0x010#9, .reg (.dir 0x011#9)⟩),
    (0x9EBC2011, .sumnz ⟨true, false, true, 15#4, .dir 0x010#9, .reg (.dir 0x011#9)⟩),
    (0xA2BC2011, .mov ⟨true, false, true, 15#4, .dir 0x010#9, .reg (.dir 0x011#9)⟩),
    (0xA6BC2011, .neg ⟨true, false, true, 15#4, .dir 0x010#9, .reg (.dir 0x011#9)⟩),
    (0xAABC2011, .abs ⟨true, false, true, 15#4, .dir 0x010#9, .reg (.dir 0x011#9)⟩),
    (0xAEBC2011, .absneg ⟨true, false, true, 15#4, .dir 0x010#9, .reg (.dir 0x011#9)⟩),
    (0xB2BC2011, .negc ⟨true, false, true, 15#4, .dir 0x010#9, .reg (.dir 0x011#9)⟩),
    (0xB6BC2011, .negnc ⟨true, false, true, 15#4, .dir 0x010#9, .reg (.dir 0x011#9)⟩),
    (0xBABC2011, .negz ⟨true, false, true, 15#4, .dir 0x010#9, .reg (.dir 0x011#9)⟩),
    (0xBEBC2011, .negnz ⟨true, false, true, 15#4, .dir 0x010#9, .reg (.dir 0x011#9)⟩),
    (0xC2BC2011, .cmps ⟨true, false, true, 15#4, .dir 0x010#9, .reg (.dir 0x011#9)⟩),
    (0xC6BC2011, .cmpsx ⟨true, false, true, 15#4, .dir 0x010#9, .reg (.dir 0x011#9)⟩),
    (0xCABC2011, .addx ⟨true, false, true, 15#4, .dir 0x010#9, .reg (.dir 0x011#9)⟩),
    (0xCEBC2011, .subx ⟨true, false, true, 15#4, .dir 0x010#9, .reg (.dir 0x011#9)⟩),
    (0xD2BC2011, .adds ⟨true, false, true, 15#4, .dir 0x010#9, .reg (.dir 0x011#9)⟩),
    (0xD6BC2011, .subs ⟨true, false, true, 15#4, .dir 0x010#9, .reg (.dir 0x011#9)⟩),
    (0xDABC2011, .addsx ⟨true, false, true, 15#4, .dir 0x010#9, .reg (.dir 0x011#9)⟩),
    (0xDEBC2011, .subsx ⟨true, false, true, 15#4, .dir 0x010#9, .reg (.dir 0x011#9)⟩),
    (0xE2BC2011, .subr ⟨true, false, true, 15#4, .dir 0x010#9, .reg (.dir 0x011#9)⟩),
    (0xE6BC2011, .cmpsub ⟨true, false, true, 15#4, .dir 0x010#9, .reg (.dir 0x011#9)⟩),
    (0x1CFC2040, .jmpret ⟨false, true, 15#4, .dir 0x010#9, .imm 0x040#9⟩),
    (0x5CFC2040, .jmpretd ⟨false, true, 15#4, .dir 0x010#9, .imm 0x040#9⟩),
    (0xF0FC2020, .ijz ⟨true, 15#4, .dir 0x010#9, .imm 0x020#9⟩),
    (0xF1FC2020, .ijzd ⟨true, 15#4, .dir 0x010#9, .imm 0x020#9⟩),
    (0xF2FC2020, .ijnz ⟨true, 15#4, .dir 0x010#9, .imm 0x020#9⟩),
    (0xF3FC2020, .ijnzd ⟨true, 15#4, .dir 0x010#9, .imm 0x020#9⟩),
    (0xF4FC2020, .djz ⟨true, 15#4, .dir 0x010#9, .imm 0x020#9⟩),
    (0xF5FC2020, .djzd ⟨true, 15#4, .dir 0x010#9, .imm 0x020#9⟩),
    (0xF6BC2011, .djnz ⟨true, 15#4, .dir 0x010#9, .reg (.dir 0x011#9)⟩)] :
    List (Nat × Instr)).all reads = true := by decide +kernel

theorem test_decode_5 : ([
    (0xF7FC2020, .djnzd ⟨true, 15#4, .dir 0x010#9, .imm 0x020#9⟩),
    (0xF87C2020, .tjz ⟨15#4, .dir 0x010#9, .imm 0x020#9⟩),
    (0xF97C2020, .tjzd ⟨15#4, .dir 0x010#9, .imm 0x020#9⟩),
    (0xFA7C2020, .tjnz ⟨15#4, .dir 0x010#9, .imm 0x020#9⟩),
    (0xFB7C2020, .tjnzd ⟨15#4, .dir 0x010#9, .imm 0x020#9⟩),
    (0xFCBC2011, .waitcnt ⟨false, true, 15#4, .dir 0x010#9, .reg (.dir 0x011#9)⟩),
    (0xFE3C2011, .waitpeq ⟨15#4, .dir 0x010#9, .reg (.dir 0x011#9)⟩),
    (0xFEBC2011, .waitpne ⟨15#4, .dir 0x010#9, .reg (.dir 0x011#9)⟩),
    (0x0CFC06E4, .setpora ⟨15#4, .imm 0x003#9⟩),
    (0x0CFC06E5, .setporb ⟨15#4, .imm 0x003#9⟩),
    (0x0CFC06E6, .setporc ⟨15#4, .imm 0x003#9⟩),
    (0x0CFC06E7, .setpord ⟨15#4, .imm 0x003#9⟩),
    (0x0DFC4AD6, .getp ⟨false, true, 15#4, .imm 0x025#9⟩),
    (0x0EFC4AD7, .getpn ⟨true, false, 15#4, .imm 0x025#9⟩),
    (0x0CFC4AD8, .offp ⟨15#4, .imm 0x025#9⟩),
    (0x0CFC4AD9, .notp ⟨15#4, .imm 0x025#9⟩),
    (0x0CFC4ADA, .clrp ⟨15#4, .imm 0x025#9⟩),
    (0x0CFC4ADB, .setp ⟨15#4, .imm 0x025#9⟩),
    (0x0CFC4ADC, .setpc ⟨15#4, .imm 0x025#9⟩),
    (0x0CFC4ADD, .setpnc ⟨15#4, .imm 0x025#9⟩),
    (0x0CFC4ADE, .setpz ⟨15#4, .imm 0x025#9⟩),
    (0x0CFC4ADF, .setpnz ⟨15#4, .imm 0x025#9⟩),
    (0x0CFC4AE9, .setxfr ⟨15#4, .imm 0x025#9⟩),
    (0x0CFC4AEA, .setser ⟨15#4, .imm 0x025#9⟩),
    (0x0C7C2009, .sndser ⟨false, 15#4, .dir 0x010#9⟩),
    (0x0CFC2009, .rcvser ⟨false, false, 15#4, .dir 0x010#9⟩),
    (0x0CFC4AE1, .setmap ⟨15#4, .imm 0x025#9⟩),
    (0x0CFC06E8, .setxch ⟨15#4, .imm 0x003#9⟩),
    (0x0CFC06E3, .setport ⟨15#4, .imm 0x003#9⟩),
    (0xFABC2011, .cfgpins ⟨15#4, .dir 0x010#9, .reg (.dir 0x011#9)⟩),
    (0x0C7C20EC, .setvid ⟨15#4, .reg (.dir 0x010#9)⟩),
    (0x0C7C20ED, .setvidy ⟨15#4, .reg (.dir 0x010#9)⟩),
    (0x0C7C20EE, .setvidi ⟨15#4, .reg (.dir 0x010#9)⟩),
    (0x0C7C20EF, .setvidq ⟨15#4, .reg (.dir 0x010#9)⟩),
    (0xFBBC2011, .waitvid ⟨15#4, .dir 0x010#9, .reg (.dir 0x011#9)⟩),
    (0x0CFC06CC, .cfgdac0 ⟨15#4, .imm 0x003#9⟩)] :
    List (Nat × Instr)).all reads = true := by decide +kernel

theorem test_decode_6 : ([
    (0x0CFC06CD, .cfgdac1 ⟨15#4, .imm 0x003#9⟩),
    (0x0CFC06CE, .cfgdac2 ⟨15#4, .imm 0x003#9⟩),
    (0x0CFC06CF, .cfgdac3 ⟨15#4, .imm 0x003#9⟩),
    (0x0C7C20D0, .setdac0 ⟨15#4, .reg (.dir 0x010#9)⟩),
    (0x0C7C20D1, .setdac1 ⟨15#4, .reg (.dir 0x010#9)⟩),
    (0x0C7C20D2, .setdac2 ⟨15#4, .reg (.dir 0x010#9)⟩),
    (0x0C7C20D3, .setdac3 ⟨15#4, .reg (.dir 0x010#9)⟩),
    (0x0CFDFED4, .cfgdacs ⟨15#4, .imm 0x0FF#9⟩),
    (0x0C7C20D5, .setdacs ⟨15#4, .reg (.dir 0x010#9)⟩),
    (0x0CFC2014, .getpix ⟨false, true, 15#4, .dir 0x010#9⟩),
    (0x0C7C20B8, .setpix ⟨15#4, .reg (.dir 0x010#9)⟩),
    (0x0C7C20B9, .setpixu ⟨15#4, .reg (.dir 0x010#9)⟩),
    (0x0C7C20BA, .setpixv ⟨15#4, .reg (.dir 0x010#9)⟩),
    (0x0C7C20BB, .setpixz ⟨15#4, .reg (.dir 0x010#9)⟩),
    (0x0C7C20BD, .setpixr ⟨15#4, .reg (.dir 0x010#9)⟩),
    (0x0C7C20BE, .setpixg ⟨15#4, .reg (.dir 0x010#9)⟩),
    (0x0C7C20BF, .setpixb ⟨15#4, .reg (.dir 0x010#9)⟩),
    (0x0C7C20BC, .setpixa ⟨15#4, .reg (.dir 0x010#9)⟩),
    (0x0C7C20F0, .setctra ⟨15#4, .reg (.dir 0x010#9)⟩),
    (0x0C7C20F1, .setwava ⟨15#4, .reg (.dir 0x010#9)⟩),
    (0x0C7C20F2, .setfrqa ⟨15#4, .reg (.dir 0x010#9)⟩),
    (0x0C7C20F3, .setphsa ⟨15#4, .reg (.dir 0x010#9)⟩),
    (0x0CFC06F4, .addphsa ⟨15#4, .imm 0x003#9⟩),
    (0x0CFC06F5, .subphsa ⟨15#4, .imm 0x003#9⟩),
    (0x0C7C00F6, .synctra ⟨false, 15#4, 0#9⟩),
    (0x0C7C00F7, .capctra ⟨false, 15#4, 0#9⟩),
    (0x0CFC2038, .getphsa ⟨false, true, 15#4, .dir 0x010#9⟩),
    (0x0CFC2039, .getphza ⟨false, true, 15#4, .dir 0x010#9⟩),
    (0x0CFC203A, .getcosa ⟨false, true, 15#4, .dir 0x010#9⟩),
    (0x0CFC203B, .getsina ⟨false, true, 15#4, .dir 0x010#9⟩),
    (0x0CFC203C, .getphsb ⟨false, true, 15#4, .dir 0x010#9⟩),
    (0x0CFC203D, .getphzb ⟨false, true, 15#4, .dir 0x010#9⟩),
    (0x0CFC203E, .getcosb ⟨false, true, 15#4, .dir 0x010#9⟩),
    (0x0CFC203F, .getsinb ⟨false, true, 15#4, .dir 0x010#9⟩),
    (0x0C7C20F8, .setctrb ⟨15#4, .reg (.dir 0x010#9)⟩),
    (0x0C7C20F9, .setwavb ⟨15#4, .reg (.dir 0x010#9)⟩)] :
    List (Nat × Instr)).all reads = true := by decide +kernel

theorem test_decode_7 : ([
    (0x0C7C20FA, .setfrqb ⟨15#4, .reg (.dir 0x010#9)⟩),
    (0x0C7C20FB, .setphsb ⟨15#4, .reg (.dir 0x010#9)⟩),
    (0x0CFC06FC, .addphsb ⟨15#4, .imm 0x003#9⟩),
    (0x0CFC06FD, .subphsb ⟨15#4, .imm 0x003#9⟩),
    (0x0C7C00FE, .synctrb ⟨false, 15#4, 0#9⟩),
    (0x0C7C00FF, .capctrb ⟨false, 15#4, 0#9⟩),
    (0x04BC2011, .rdword ⟨false, 15#4, .dir 0x010#9, .reg (.dir 0x011#9)⟩),
    (0x08BC2011, .rdlong ⟨false, 15#4, .dir 0x010#9, .reg (.dir 0x011#9)⟩),
    (0x0C7C22B1, .rdquad ⟨15#4, .reg (.dir 0x011#9)⟩),
    (0x0093EC11, .rdbyte ⟨false, 15#4, .ind .a 1#2, .reg (.dir 0x011#9)⟩),
    (0x0CFC2021, .decod4 ⟨false, true, 15#4, .dir 0x010#9⟩),
    (0x0CFC2022, .decod3 ⟨false, true, 15#4, .dir 0x010#9⟩),
    (0x0CFC2023, .decod2 ⟨false, true, 15#4, .dir 0x010#9⟩),
    (0x09BC2011, .rdlongc ⟨false, 15#4, .dir 0x010#9, .reg (.dir 0x011#9)⟩),
    (0x0C7C0008, .cachex ⟨15#4⟩),
    (0xE4042610, .fixinda ⟨0x013#9, 0x010#9⟩),
    (0x043C2011, .wrword ⟨15#4, .dir 0x010#9, .reg (.dir 0x011#9)⟩),
    (0x0CFC0208, .clracca ⟨true, 15#4⟩),
    (0x0CFC0408, .clraccb ⟨true, 15#4⟩),
    (0x0CFC0608, .clraccs ⟨true, 15#4⟩),
    (0x0CFC0A08, .fitacca ⟨true, 15#4⟩),
    (0x0CFC0C08, .fitaccb ⟨true, 15#4⟩),
    (0x0CFC0E08, .fitaccs ⟨true, 15#4⟩),
    (0x0EFC2024, .blmask ⟨true, true, 15#4, .dir 0x010#9⟩),
    (0x0EFC2025, .not ⟨true, true, 15#4, .dir 0x010#9⟩),
    (0x0EFC2027, .zercnt ⟨true, true, 15#4, .dir 0x010#9⟩),
    (0x0EFC2028, .incpat ⟨true, true, 15#4, .dir 0x010#9⟩),
    (0x0EFC2029, .decpat ⟨true, true, 15#4, .dir 0x010#9⟩),
    (0x0EFC202A, .bingry ⟨true, true, 15#4, .dir 0x010#9⟩),
    (0x0EFC202B, .grybin ⟨true, true, 15#4, .dir 0x010#9⟩),
    (0x0EFC202C, .mergew ⟨true, true, 15#4, .dir 0x010#9⟩),
    (0x0EFC202D, .splitw ⟨true, true, 15#4, .dir 0x010#9⟩),
    (0x0EFC202E, .seussf ⟨true, true, 15#4, .dir 0x010#9⟩),
    (0x0EFC202F, .seussr ⟨true, true, 15#4, .dir 0x010#9⟩),
    (0x0C7C20B0, .wrquad ⟨15#4, .reg (.dir 0x010#9)⟩),
    (0xE0040020, .setindaAddr ⟨0x020#9⟩)] :
    List (Nat × Instr)).all reads = true := by decide +kernel

theorem test_decode_8 : ([
    (0xE033E000, .setindbDelta ⟨0x1F0#9⟩),
    (0xE01FE020, .setindsAddrDelta ⟨0x1F0#9, 0x020#9⟩),
    (0xE4102610, .fixindb ⟨0x013#9, 0x010#9⟩),
    (0xE4142610, .fixinds ⟨0x013#9, 0x010#9⟩),
    (0x5ABC2011, .movi ⟨true, true, 15#4, .dir 0x010#9, .reg (.dir 0x011#9)⟩),
    (0x92BC2011, .sumc ⟨true, false, true, 15#4, .dir 0x010#9, .reg (.dir 0x011#9)⟩),
    (0xEABC2011, .incmod ⟨true, true, 15#4, .dir 0x010#9, .reg (.dir 0x011#9)⟩),
    (0xEEBC2011, .decmod ⟨true, true, 15#4, .dir 0x010#9, .reg (.dir 0x011#9)⟩),
    (0x00A82011, .rdbyte ⟨false, 10#4, .dir 0x010#9, .reg (.dir 0x011#9)⟩),
    (0x008C21F7, .rdbyte ⟨false, 15#4, .dir 0x010#9, .reg (.ind .b 3#2)⟩),
    (0xA0D3EC07, .mov ⟨false, false, true, 15#4, .ind .a 1#2, .imm 0x007#9⟩),
    (0x8097EDF7, .add ⟨false, false, true, 15#4, .ind .a 1#2, .reg (.ind .b 1#2)⟩),
    (0xA0FC21F6, .mov ⟨false, false, true, 15#4, .dir 0x010#9, .imm 0x1F6#9⟩),
    (0x00000000, .wrbyte ⟨0#4, .dir 0x000#9, .reg (.dir 0x000#9)⟩),
    (0x0CFDBEB1, .rdquad ⟨15#4, .ptr ⟨false, true, true, 31#6⟩⟩),
    (0x0CFF02B1, .rdquad ⟨15#4, .ptr ⟨true, true, false, 1#6⟩⟩),
    (0x0DBC2011, .coginit ⟨false, true, true, 15#4, .dir 0x010#9, .dir 0x011#9⟩),
    (0xFC7C2064, .waitcnt ⟨false, false, 15#4, .dir 0x010#9, .imm 0x064#9⟩),
    (0xFDBC2011, .waitcnt ⟨true, true, 15#4, .dir 0x010#9, .reg (.dir 0x011#9)⟩),
    (0x0C7C2094, .jmptask ⟨15#4, .reg (.dir 0x010#9), 4#4⟩),
    (0x1C680040, .jmpret ⟨false, false, 10#4, .dir 0x000#9, .imm 0x040#9⟩)] :
    List (Nat × Instr)).all reads = true := by decide +kernel

theorem test_decode_refuses : [(0x59FC2011, DecodeError.effectBit), (0xA0C7EC07, .indirectHalf),
    (0xE0080000, .noRow), (0x013C2011, .noRow), (0x0CFC2003, .noRow), (0x0EFC2006, .noRow),
    (0x0C7C021C, .noRow), (0x0DFC2020, .effectBit), (0x0EFC0208, .effectBit), (0xF8FC2020, .olderForm),
    (0x0EFC4AD9, .effectBit), (0x0CFFECB2, .immediateInd)].all refuses = true := by decide +kernel

/-! ### Single steps: the worked examples of 95_test_vectors.md -/

/-- The word `w` executes in the state after reset with the COG changed by `f` and the memory `m`, and
the state it leaves meets `k`. -/
noncomputable def go (w : Nat) (f : Cog → Cog) (m : List Host.Cell) (k : State → Bool) : Bool :=
  match runWord (BitVec.ofNat 32 w) { State.reset.setCog (f State.reset.cog) with mem := m } with
  | .next t => k t
  | _ => false

/-- The word `w` is refused. -/
noncomputable def no (w : Nat) (f : Cog → Cog) : Bool :=
  match runWord (BitVec.ofNat 32 w) (State.reset.setCog (f State.reset.cog)) with
  | .refused _ => true
  | _ => false

/-- Register `a` set to `v`. -/
def put (a v : Nat) (c : Cog) : Cog := { c with ram := c.ram.wr (BitVec.ofNat 9 a) (BitVec.ofNat 32 v) }

/-- Z and C set. -/
def flags (z x : Bool) (c : Cog) : Cog := writeC true x (writeZ true z c)

def quads (a b c d : Nat) : Bank 2 Word :=
  #v[BitVec.ofNat 32 a, BitVec.ofNat 32 b, BitVec.ofNat 32 c, BitVec.ofNat 32 d]

/-- Register `a`, and the byte at `a`, as numbers. -/
def reg (s : State) (a : Nat) : Nat := (s.cog.ram.rd (BitVec.ofNat 9 a)).toNat
def byte (s : State) (a : Nat) : Nat := (readByte s.mem (BitVec.ofNat 17 a)).toNat

/-- Memory $01001 to $0100F with the bytes $11, $22, … $FF. -/
def bytes11 : List Host.Cell := (List.range 15).map fun k => (0x1001 + k, BitVec.ofNat 8 (0x11 * (k + 1)))

/-- V1. -/
theorem test_step_conditions_and_effects :
    go 0x80FC2005 (put 16 7) [] (fun s => reg s 16 == 12) ∧
    go 0x80E82005 (put 16 7 ∘ flags true false) [] (fun s => reg s 16 == 12) ∧
    go 0x80E82005 (put 16 7 ∘ flags false false) [] (fun s => reg s 16 == 7 && s.cog.pcNow == 1#9) ∧
    go 0x80D42005 (put 16 7 ∘ flags false true) [] (fun s => reg s 16 == 12) ∧
    go 0x80F02005 (put 16 7 ∘ flags true true) [] (fun s => reg s 16 == 12) ∧
    go 0x80CC2005 (put 16 7 ∘ flags false true) [] (fun s => reg s 16 == 7) ∧
    go 0x80C42005 (put 16 7 ∘ flags false false) [] (fun s => reg s 16 == 12) ∧
    go 0x80C42005 (put 16 7 ∘ flags true false) [] (fun s => reg s 16 == 7) ∧
    go 0x80F82005 (put 16 7 ∘ flags false false) [] (fun s => reg s 16 == 7) ∧
    go 0x80C02005 (put 16 7) [] (fun s => reg s 16 == 7) ∧
    go 0 (put 16 7) [] (fun s => reg s 16 == 7 && s.cog.pcNow == 1#9) ∧
    go 0x837C2005 (put 16 0xFFFFFFFB) [] (fun s => reg s 16 == 0xFFFFFFFB && s.cog.flagZ && s.cog.flagC) ∧
    go 0x82FC2005 (put 16 0xFFFFFFFB) [] (fun s => reg s 16 == 0 && s.cog.flagZ && !s.cog.flagC) ∧
    go 0xA0FC21FF id [] (fun s => reg s 16 == 0x1FF) ∧
    no 0x59FC2011 id := by
  decide +kernel

/-- V2. -/
theorem test_step_hub_memory :
    go 0x00BC2011 (put 17 0x1005) bytes11 (fun s => reg s 16 == 0x55) ∧
    go 0x02BC2011 (put 17 0x1000) bytes11 (fun s => reg s 16 == 0 && s.cog.flagZ) ∧
    go 0x02BC2011 (put 17 0x100F) bytes11 (fun s => reg s 16 == 0xFF && !s.cog.flagZ) ∧
    go 0x04BC2011 (put 17 0x1005) bytes11 (fun s => reg s 16 == 0x5544) ∧
    go 0x08BC2011 (put 17 0xFFFE1004) bytes11 (fun s => reg s 16 == 0x77665544) ∧
    go 0x08BC2010 (put 16 0x1008) bytes11 (fun s => reg s 16 == 0xBBAA9988) ∧
    go 0x003C2011 (put 17 0x1001 ∘ put 16 0x12345678) bytes11 (fun s => byte s 0x1001 == 0x78 && byte s 0x1002 == 0x22) ∧
    go 0x043C2011 (put 17 0x1003 ∘ put 16 0xDEADBEEF) bytes11 (fun s => byte s 0x1002 == 0xEF && byte s 0x1003 == 0xBE && byte s 0x1001 == 0x11) ∧
    go 0x083C2011 (put 17 0x1002 ∘ put 16 0xDEADBEEF) bytes11 (fun s => byte s 0x1000 == 0xEF && byte s 0x1001 == 0xBE && byte s 0x1002 == 0xAD && byte s 0x1003 == 0xDE) ∧
    no 0x083C2011 (put 17 0x10) ∧
    go 0x08FC20C1 (fun c => {c with ptra := 0x1000#17}) bytes11 (fun s => reg s 16 == 0x33221100 && s.cog.ptra == 0x1004#17) ∧
    go 0x08FC203F (fun c => {c with ptra := 0x1004#17}) bytes11 (fun s => reg s 16 == 0x33221100 && s.cog.ptra == 0x1004#17) ∧
    go 0x00FC20DF (fun c => {c with ptra := 0x1000#17}) bytes11 (fun s => reg s 16 == 0 && s.cog.ptra == 0x101F#17) ∧
    go 0x007C20E0 (fun c => {put 16 0xAB c with ptra := 0x1020#17}) bytes11 (fun s => byte s 0x1020 == 0xAB && s.cog.ptra == 0x1000#17) ∧
    go 0x00FC20C1 (fun c => {c with ptra := 0x1FFFF#17}) bytes11 (fun s => reg s 16 == 0 && s.cog.ptra == 0#17) ∧
    go 0x08FC21BF (fun c => {c with ptrb := 0#17}) bytes11 (fun s => reg s 16 == 0 && s.cog.ptrb == 0x1FFFC#17) ∧
    go 0x0CFDBEB1 (fun c => {c with ptra := 0x1000#17}) bytes11 (fun s => s.cog.quads.rd 0#2 == 0x33221100#32 && s.cog.ptra == 0x11F0#17) ∧
    go 0x0C7C22B1 (put 17 0x100B) bytes11 (fun s => s.cog.quads == quads 0x33221100 0x77665544 0xBBAA9988 0xFFEEDDCC && s.cog.qtag == 0x100#13 && s.cog.qvalid) ∧
    go 0x0C7C22B0 (fun c => { put 17 0x1027 c with quads := quads 1 2 3 4 }) bytes11 (fun s => (List.range 16).map (fun k => byte s (0x1020+k)) == [1,0,0,0,2,0,0,0,3,0,0,0,4,0,0,0]) ∧
    go 0x01BC2012 (fun c => { put 18 0x100D c with quads := quads 1 2 3 0x00DD00, qvalid := true, qtag := 0x100#13 }) [] (fun s => reg s 16 == 0xDD) ∧
    go 0x09BC2011 (put 17 0x1004) bytes11 (fun s => reg s 16 == 0x77665544 && s.cog.qvalid && s.cog.qtag == 0x100#13) ∧
    no 0x013C2011 id ∧
    no 0x023C2011 id ∧
    no 0x033C2011 id := by
  decide +kernel

/-- V3. -/
theorem test_step_pointers_and_quads :
    go 0x0CFE00B2 id [] (fun s => s.cog.ptra == 0x100#17) ∧
    go 0x0C7C20B2 (put 16 0xFFFFFFFF) [] (fun s => s.cog.ptra == 0x1FFFF#17) ∧
    go 0x0C7C20B3 (put 16 0x20000) [] (fun s => s.cog.ptrb == 0#17) ∧
    go 0x0CFC08B4 (fun c => {c with ptra := 0x1FFFE#17}) [] (fun s => s.cog.ptra == 2#17) ∧
    go 0x0C7C20B5 (fun c => {put 16 0xFFFFFFFF c with ptrb := 0x10#17}) [] (fun s => s.cog.ptrb == 0xF#17) ∧
    go 0x0CFC02B6 (fun c => {c with ptra := 0#17}) [] (fun s => s.cog.ptra == 0x1FFFF#17) ∧
    go 0x0CFFFEB7 (fun c => {c with ptrb := 0x200#17}) [] (fun s => s.cog.ptrb == 1#17) ∧
    go 0x0DFC2012 (fun c => {c with ptra := 0x10000#17}) [] (fun s => reg s 16 == 0x10000 && s.cog.flagC) ∧
    go 0x0FFC2013 (fun c => {put 16 5 c with ptrb := 0#17}) [] (fun s => reg s 16 == 0 && s.cog.flagZ && !s.cog.flagC) ∧
    go 0x0F7C2012 (fun c => {put 16 5 c with ptra := 0xFFFF#17}) [] (fun s => reg s 16 == 5 && !s.cog.flagZ && !s.cog.flagC) ∧
    go 0x0CFE00E2 (fun c => {c with quads := quads 1 2 3 4}) [] (fun s => s.cog.qbase == 0x100#9 && s.cog.quads == quads 1 2 3 4) ∧
    go 0x0DFE00E2 (fun c => {c with quads := quads 1 2 3 4}) [] (fun s => s.cog.qbase == 0x100#9 && s.cog.quads == quads 0 0 0 0) ∧
    go 0x0CFFF0E2 (fun c => {c with qbase := 0x100#9}) [] (fun s => s.cog.qbase == 0x1F8#9) ∧
    go 0x0CFC2011 (fun c => {c with quads := quads 0x11000000 0x22000000 0x33000000 0x44000000}) [] (fun s => reg s 16 == 0x44332211) ∧
    go 0x0C7C0008 (fun c => {c with qvalid := true}) [] (fun s => !s.cog.qvalid) ∧
    go 0xA0FE0207 (fun c => {c with qbase := 0x100#9}) [] (fun s => s.cog.quads.rd 1#2 == 7#32 && reg s 0x101 == 7) := by
  decide +kernel

/-- V4. -/
theorem test_step_hub_control :
    go 0x0CFC2001 id [] (fun s => reg s 16 == 0) ∧
    go 0x0C7C2003 (put 16 0xA) [] (fun s => isIdle (s.cogs.rd 2#3) && !isIdle s.cog) ∧
    go 0x0C7C2003 (put 16 8) [] (fun s => isIdle s.cog) ∧
    go 0x0C3C2011 (put 16 0x1003 ∘ put 17 0xFFFFFFFF) [] (fun s => s.cog.run == .loading allLoads 0x1000#17 && s.cog.ptra == 0x1FFFF#17 && s.cog.ptrb == 0x1000#17) ∧
    go 0x0DBC2011 (fun c => {flags true true c with cogsel := 8#4}) [] (fun s => reg s 16 == 1 && !s.cog.flagC && s.cog.flagZ && !isIdle (s.cogs.rd 1#3) && isIdle (s.cogs.rd 2#3)) ∧
    go 0x0DFC2004 (flags true true) [] (fun s => reg s 16 == 0 && !s.cog.flagC && (s.locks.rd 0#3).taken) ∧
    go 0x0C7C2005 (put 16 0xB) [] (fun s => !(s.locks.rd 3#3).taken) ∧
    go 0x0D7C2006 (put 16 2 ∘ flags true true) [] (fun s => (s.locks.rd 2#3).state && !s.cog.flagC) ∧
    go 0x0C7C2006 (put 16 2 ∘ flags true true) [] (fun s => (s.locks.rd 2#3).state && s.cog.flagC) ∧
    go 0x0D7C2007 (put 16 2 ∘ flags true true) [] (fun s => !(s.locks.rd 2#3).state && !s.cog.flagC) ∧
    no 0x0CFC2003 id ∧
    no 0x0EFC2006 id := by
  decide +kernel

/-- V5. -/
theorem test_step_indirect_registers :
    let A (p : RegAddr) (c : Cog) : Cog := { c with inda := ⟨p, 0x10#9, 0x13#9⟩ }
    let B (p : RegAddr) (c : Cog) : Cog := { c with indb := ⟨p, 0#9, 0x1FF#9⟩ }
    go 0xE4042610 id [] (fun s => s.cog.inda == ⟨0x10#9, 0x10#9, 0x13#9⟩) ∧
    go 0xE013FE00 id [] (fun s => s.cog.indb == ⟨0x1FF#9, 0#9, 0x1FF#9⟩) ∧
    go 0xA0D3EC07 (A 0x10#9) [] (fun s => reg s 16 == 7 && s.cog.inda.ptr == 0x11#9) ∧
    go 0xA0D3EC07 (A 0x13#9) [] (fun s => reg s 19 == 7 && s.cog.inda.ptr == 0x10#9) ∧
    go 0xA0E3EC07 (A 0x10#9) [] (fun s => reg s 16 == 7 && s.cog.inda.ptr == 0x13#9) ∧
    go 0xA0F3EC07 (A 0x13#9) [] (fun s => reg s 16 == 7 && s.cog.inda.ptr == 0x10#9) ∧
    go 0xA08421F7 (fun c => { B 0x1FF#9 c with dir := 5#128 <<< 96}) [] (fun s => reg s 16 == 5 && s.cog.indb.ptr == 0#9) ∧
    go 0xA08821F7 (put 0 9 ∘ B 0#9) [] (fun s => reg s 16 == 9 && s.cog.indb.ptr == 0x1FF#9) ∧
    go 0x8097EDF7 (put 17 1 ∘ put 32 2 ∘ A 0x11#9 ∘ B 0x20#9) [] (fun s => reg s 17 == 3 && s.cog.indb.ptr == 0x21#9 && s.cog.inda.ptr == 0x12#9) ∧
    go 0xA08FEDF6 (put 16 9 ∘ A 0x13#9) [] (fun s => reg s 19 == 9 && s.cog.inda.ptr == 0x10#9) ∧
    go 0xA097EDF6 (put 17 9 ∘ A 0x11#9) [] (fun s => reg s 17 == 9 && s.cog.inda.ptr == 0x12#9) ∧
    go 0xA09BEDF6 (put 17 9 ∘ A 0x11#9) [] (fun s => reg s 17 == 9 && s.cog.inda.ptr == 0x12#9) ∧
    go 0xA0C3EC07 (A 0x11#9) [] (fun s => reg s 17 == 7 && s.cog.inda.ptr == 0x11#9) ∧
    no 0xA0C7EC07 id ∧
    go 0xA0FC21F6 id [] (fun s => reg s 16 == 0x1F6) ∧
    go 0xE00C0003 (A 0x12#9) [] (fun s => s.cog.inda == ⟨0x15#9, 0#9, 0x1FF#9⟩) ∧
    go 0xE00C0100 (A 0x10#9) [] (fun s => s.cog.inda == ⟨0x110#9, 0#9, 0x1FF#9⟩) ∧
    go 0xE4140A05 id [] (fun s => s.cog.inda == ⟨5#9, 5#9, 5#9⟩ && s.cog.indb == ⟨5#9, 5#9, 5#9⟩) ∧
    no 0xE0080000 id := by
  decide +kernel

/-- V6. -/
theorem test_step_stack :
    go 0x0CFD00A2 id [] (fun s => s.cog.spa == 0x80#8) ∧
    go 0x0C7C20A3 (put 16 0x123) [] (fun s => s.cog.spb == 0x23#8) ∧
    go 0x0CFC06A4 (fun c => {c with spa := 0xFE#8}) [] (fun s => s.cog.spa == 1#8) ∧
    go 0x0CFC02A7 id [] (fun s => s.cog.spb == 0xFF#8) ∧
    go 0x0CFE46AA (fun c => {c with spa := 0xFF#8}) [] (fun s => s.cog.spa == 0#8 && s.cog.stk.rd 0xFF#8 == 0x123#32) ∧
    go 0x0C7C20AB (fun c => {put 16 0x80000000 c with spb := 5#8}) [] (fun s => s.cog.spb == 6#8 && s.cog.stk.rd 5#8 == 0x80000000#32) ∧
    go 0x0C7C20A8 (put 16 7) [] (fun s => s.cog.spa == 0xFF#8 && s.cog.stk.rd 0xFF#8 == 7#32) ∧
    go 0x0FFC201A (fun c => {c with spa := 6#8, stk := c.stk.wr 5#8 0x80000000#32}) [] (fun s => s.cog.spa == 5#8 && reg s 16 == 0x80000000 && s.cog.flagC && !s.cog.flagZ) ∧
    go 0x0FFC201A id [] (fun s => s.cog.spa == 0xFF#8 && reg s 16 == 0 && !s.cog.flagC && s.cog.flagZ) ∧
    go 0x0CFC2019 (fun c => {c with spb := 0xFF#8, stk := c.stk.wr 0xFF#8 7#32}) [] (fun s => s.cog.spb == 0#8 && reg s 16 == 7) ∧
    go 0x0F7C0015 (fun c => {c with spa := 3#8, spb := 5#8}) [] (fun s => !s.cog.flagZ && s.cog.flagC) ∧
    go 0x0FFC2015 (fun c => {put 16 4 c with spa := 5#8, spb := 5#8}) [] (fun s => reg s 16 == 0 && s.cog.flagZ && !s.cog.flagC) ∧
    go 0x0FFC2016 (fun c => {put 16 4 c with spa := 0x80#8}) [] (fun s => reg s 16 == 0x80 && !s.cog.flagZ && s.cog.flagC) ∧
    go 0x0F7C0017 id [] (fun s => s.cog.flagZ && !s.cog.flagC) ∧
    go 0x0CFC80AC (fun c => jump 0x20#9 (flags true false c)) [] (fun s => s.cog.stk.rd 0#8 == 0x421#32 && s.cog.spa == 1#8 && s.cog.pcNow == 0x40#9 && s.cog.tsk.flush == 3) ∧
    go 0x0C7C20AD (fun c => {jump 0x1FF#9 (flags false true (put 16 0xFFFFF040 c)) with spb := 9#8}) [] (fun s => s.cog.stk.rd 9#8 == 0x200#32 && s.cog.spb == 10#8 && s.cog.pcNow == 0x40#9) ∧
    go 0x0CFC80AE (jump 0x20#9) [] (fun s => s.cog.stk.rd 0#8 == 0x24#32 && s.cog.pcNow == 0x21#9 && s.cog.tsk.delayed == [⟨0x40#9, 3⟩]) ∧
    go 0x0F7C001C (fun c => {c with spa := 1#8, stk := c.stk.wr 0#8 0x421#32}) [] (fun s => s.cog.spa == 0#8 && s.cog.flagZ && !s.cog.flagC && s.cog.pcNow == 0x21#9) ∧
    go 0x0C7C001C (fun c => {c with spa := 1#8, stk := c.stk.wr 0#8 0x421#32}) [] (fun s => s.cog.spa == 0#8 && !s.cog.flagZ && s.cog.pcNow == 0x21#9) ∧
    go 0x0C7C001F (fun c => {c with spb := 10#8, stk := c.stk.wr 9#8 0x200#32}) [] (fun s => s.cog.spb == 9#8 && s.cog.tsk.delayed == [⟨0#9, 3⟩]) ∧
    no 0x0C7C021C id := by
  decide +kernel

/-- V7. -/
theorem test_step_tasks :
    go 0x0CFDC8CB id [] (fun s => s.cog.taskWrites == [⟨0xE4E4E4E4#32, 3⟩]) ∧
    go 0x0CFE00CB id [] (fun s => s.cog.taskWrites == [⟨0#32, 3⟩]) ∧
    go 0x0C7C20CB (put 16 0xE4) [] (fun s => s.cog.taskWrites == [⟨0xE4#32, 3⟩]) ∧
    go 0x0CFC809A id [] (fun s => (s.cog.tasks.rd 1#2).pc == 0x40#9 && (s.cog.tasks.rd 3#2).pc == 0x40#9 && (s.cog.tasks.rd 2#2).pc == 2#9 && (s.cog.tasks.rd 3#2).flush == 3 && s.cog.pcNow == 1#9) ∧
    go 0x0C7C2091 (put 16 0xFFFFFE33) [] (fun s => s.cog.pcNow == 0x33#9 && s.cog.tsk.flush == 3) ∧
    go 0x0CFC8090 id [] (fun s => s.cog.pcNow == 1#9) := by
  decide +kernel

/-- V8. -/
theorem test_step_multiply_accumulate_and_bits :
    go 0x12FC2064 (put 16 1000) [] (fun s => reg s 16 == 0x186A0 && !s.cog.flagZ) ∧
    go 0x12BC2011 (put 16 0x1000000 ∘ put 17 5) [] (fun s => reg s 16 == 0 && s.cog.flagZ) ∧
    go 0x10BC2011 (put 16 0xFFFFFF ∘ put 17 0xFFFFFF) [] (fun s => reg s 16 == 0xFE000001) ∧
    go 0x14BC2011 (put 16 0x800000 ∘ put 17 0x800000) [] (fun s => reg s 16 == 0x40000000) ∧
    go 0x14BC2011 (put 16 0xFFFFFF ∘ put 17 0xFFFFFF) [] (fun s => reg s 16 == 0xFFFFFE00) ∧
    go 0x103C2011 (put 16 0x89ABCDEF ∘ put 17 0x01234567) [] (fun s => s.cog.acca == 0x0123456789ABCDEF#64) ∧
    go 0x123C2011 (fun c => {(put 16 1 ∘ put 17 1) c with acca := BitVec.allOnes 64}) [] (fun s => s.cog.acca == 0#64) ∧
    go 0x137C2003 (fun c => {(put 16 4) c with accb := 10#64}) [] (fun s => s.cog.accb == 22#64) ∧
    go 0x0C7C0A08 (fun c => {c with acca := 0x1234567890#64}) [] (fun s => s.cog.acca == 0x0000000591A2B3C4#64) ∧
    go 0x0C7C0A08 (fun c => {c with acca := 0xFFFFFFFF#64}) [] (fun s => s.cog.acca == 0xFFFFFFFF#64) ∧
    go 0x0C7C0A08 (fun c => {c with acca := 0x8000000000000000#64}) [] (fun s => s.cog.acca == 0x2080000000#64) ∧
    go 0x0C7C0E08 (fun c => {c with acca := 0x100000000#64, accb := 0x40#64}) [] (fun s => s.cog.acca == 0x180000000#64 && s.cog.accb == 0x100000020#64) ∧
    go 0x0C7C0608 (fun c => {c with acca := 0x100000000#64, accb := 0x40#64}) [] (fun s => s.cog.acca == 0#64 && s.cog.accb == 0#64) ∧
    go 0x0CFC2024 (put 16 0) [] (fun s => reg s 16 == 0) ∧
    go 0x0CFC2024 (put 16 5) [] (fun s => reg s 16 == 0x1F) ∧
    go 0x0CFC2024 (put 16 63) [] (fun s => reg s 16 == 0xFFFFFFFF) ∧
    go 0x0CFC2025 (put 16 0xFFFF) [] (fun s => reg s 16 == 0xFFFF0000) ∧
    go 0x0EFC2026 (put 16 0xF0F00001) [] (fun s => reg s 16 == 9 && !s.cog.flagZ) ∧
    go 0x0CFC2027 (put 16 0xF0F00001) [] (fun s => reg s 16 == 23) ∧
    go 0x0CFC2028 (put 16 6) [] (fun s => reg s 16 == 9) ∧
    go 0x0CFC2028 (put 16 3) [] (fun s => reg s 16 == 5) ∧
    go 0x0CFC2028 (put 16 0xC0000000) [] (fun s => reg s 16 == 3) ∧
    go 0x0CFC2028 (put 16 0xFFFFFFFF) [] (fun s => reg s 16 == 0xFFFFFFFF) ∧
    go 0x0CFC2029 (put 16 9) [] (fun s => reg s 16 == 6) ∧
    go 0x0CFC2029 (put 16 3) [] (fun s => reg s 16 == 0xC0000000) ∧
    go 0x0CFC202A (put 16 5) [] (fun s => reg s 16 == 7) ∧
    go 0x0CFC202A (put 16 0x80000000) [] (fun s => reg s 16 == 0xC0000000) := by
  decide +kernel

/-- V8. -/
theorem test_step_flags_and_single_bits :
    go 0x0CFC202B (put 16 0xC0000000) [] (fun s => reg s 16 == 0x80000000) ∧
    go 0x0CFC202B (put 16 0x80000000) [] (fun s => reg s 16 == 0xFFFFFFFF) ∧
    go 0x0CFC202C (put 16 0xFFFF0000) [] (fun s => reg s 16 == 0xAAAAAAAA) ∧
    go 0x0CFC202C (put 16 0x30001) [] (fun s => reg s 16 == 0xB) ∧
    go 0x0CFC202D (put 16 0xAAAAAAAA) [] (fun s => reg s 16 == 0xFFFF0000) ∧
    go 0x0CFC202D (put 16 0xB) [] (fun s => reg s 16 == 0x30001) ∧
    go 0x0FFC200A (put 16 0x80000001 ∘ flags false true) [] (fun s => reg s 16 == 5 && s.cog.flagZ && !s.cog.flagC) ∧
    go 0x0FFC200B (put 16 0x5 ∘ flags true false) [] (fun s => reg s 16 == 0x80000001 && !s.cog.flagZ && s.cog.flagC) ∧
    go 0x0FFC04A1 id [] (fun s => s.cog.flagZ && !s.cog.flagC) ∧
    go 0x0EFC02A1 (flags true false) [] (fun s => !s.cog.flagZ && !s.cog.flagC) ∧
    go 0x0E7C211F (put 16 0x80000000 ∘ flags true true) [] (fun s => reg s 16 == 0x80000000 && !s.cog.flagZ && s.cog.flagC) ∧
    go 0x0CFC2125 (put 16 0x20) [] (fun s => reg s 16 == 0) ∧
    go 0x0CFC2145 (put 16 0xFFFFFFFF) [] (fun s => reg s 16 == 0xFFFFFFDF) ∧
    go 0x0CFC2165 (put 16 0) [] (fun s => reg s 16 == 0x20) ∧
    go 0x0CFC2185 (put 16 0x20) [] (fun s => reg s 16 == 0) ∧
    go 0x0CFC21A5 (put 16 0) [] (fun s => reg s 16 == 0x20) ∧
    go 0x0EFC21C5 (put 16 0x20) [] (fun s => reg s 16 == 0 && s.cog.flagZ) ∧
    go 0x0CFC21E5 (put 16 0) [] (fun s => reg s 16 == 0x20) ∧
    no 0x0DFC2020 id ∧
    no 0x0EFC0208 id := by
  decide +kernel

/-- V10 and V11. -/
theorem test_step_branches_waits_and_pins :
    go 0x1C7C0040 (jump 5#9) [] (fun s => s.cog.pcNow == 0x40#9 && reg s 0 == 0) ∧
    go 0x1C3C0011 (put 17 0xFFFFFE41) [] (fun s => s.cog.pcNow == 0x41#9) ∧
    go 0x1C680040 (jump 5#9) [] (fun s => s.cog.pcNow == 6#9) ∧
    go 0x1CFC2040 (jump 5#9 ∘ put 16 0x5C7C0000) [] (fun s => s.cog.pcNow == 0x40#9 && reg s 16 == 0x5C7C0006) ∧
    go 0x1EFC2040 (jump 0x1FF#9) [] (fun s => s.cog.pcNow == 0x40#9 && reg s 16 == 0 && s.cog.flagZ) ∧
    go 0x5CFC2040 (jump 5#9) [] (fun s => s.cog.pcNow == 6#9 && reg s 16 == 9) ∧
    go 0xF6FC2020 id [] (fun s => s.cog.pcNow == 0x20#9 && reg s 16 == 0xFFFFFFFF) ∧
    go 0xF67C2020 (put 16 1) [] (fun s => s.cog.pcNow == 1#9 && reg s 16 == 1) ∧
    go 0xF4FC2020 (put 16 1) [] (fun s => s.cog.pcNow == 0x20#9 && reg s 16 == 0) ∧
    go 0xF0FC2020 (put 16 0xFFFFFFFF) [] (fun s => s.cog.pcNow == 0x20#9 && reg s 16 == 0) ∧
    go 0xF2FC2020 (put 16 0xFFFFFFFF) [] (fun s => s.cog.pcNow == 1#9 && reg s 16 == 0) ∧
    go 0xF7FC2020 (put 16 2) [] (fun s => s.cog.pcNow == 1#9 && reg s 16 == 1 && s.cog.tsk.delayed == [⟨0x20#9,3⟩]) ∧
    go 0xF87C2020 id [] (fun s => s.cog.pcNow == 0x20#9) ∧
    go 0xFA7C2020 id [] (fun s => s.cog.pcNow == 1#9) ∧
    no 0xF8FC2020 id ∧
    go 0xFCFC2064 id [] (fun s => reg s 16 == 100) ∧
    go 0xFCFC2064 (put 16 1) [] (fun s => s.cog.stalled) ∧
    go 0xFE3C2011 id [] (fun s => !s.cog.stalled) ∧
    go 0xFEBC2011 id [] (fun s => s.cog.stalled) ∧
    go 0x0CFC4AD9 id [] (fun s => s.cog.out == 1#128 <<< 37) ∧
    go 0x0C7C20D9 (put 16 0xFFFFFF85) [] (fun s => s.cog.out == 1#128 <<< 5) ∧
    go 0x0CFC4ADB id [] (fun s => s.cog.out == 1#128 <<< 37) ∧
    go 0x0CFC4ADA (fun c => {c with out := 3#128 <<< 37}) [] (fun s => s.cog.out == 2#128 <<< 37) ∧
    go 0x0CFC4AD8 id [] (fun s => s.cog.dir == 1#128 <<< 37) ∧
    go 0x0CFC4ADC (flags false true) [] (fun s => s.cog.out == 1#128 <<< 37) ∧
    go 0x0CFC4ADF (flags true true) [] (fun s => s.cog.out == 0#128) ∧
    go 0x0FFC4AD6 id [] (fun s => s.cog.flagZ && !s.cog.flagC) ∧
    no 0x0EFC4AD9 id ∧
    go 0x0CFC06E4 id [] (fun s => s.cog.por.rd 0#2 == 3#2) ∧
    go 0xA0FFF0FF (fun c => {c with out := BitVec.allOnes 128}) [] (fun s => s.cog.out == (BitVec.allOnes 128 <<< 32 ||| 0xFF#128)) := by
  decide +kernel

/-- The word, Dv, Sv, C, Z, and the D, Z and C it leaves. -/
noncomputable def leaves (w d s : Nat) (c z : Bool) (v : Nat) (z1 c1 : Bool) : Bool :=
  go w (flags z c ∘ put 0x10 d ∘ put 0x11 s) [] fun t =>
    reg t 0x10 == v && t.cog.flagZ == z1 && t.cog.flagC == c1 && t.cog.pcNow == 1#9

/-- V9, at most two rows for an instruction. -/
theorem test_step_alu_1 :
    leaves 0x1ABC2011 0x0 0x0 false false 0x0 true false ∧
    leaves 0x1ABC2011 0x0 0x1FF false false 0x9 false false ∧
    leaves 0x23BC2011 0x80000001 0x4 false false 0x18000000 false true ∧
    leaves 0x23BC2011 0x1 0x1 false false 0x80000000 false true ∧
    leaves 0x27BC2011 0x80000001 0x4 false false 0x18 false true ∧
    leaves 0x27BC2011 0x12345678 0x24 false false 0x23456781 false false ∧
    leaves 0x2BBC2011 0x80000001 0x4 false false 0x8000000 false true ∧
    leaves 0x2BBC2011 0x12345678 0x20 false false 0x12345678 false false ∧
    leaves 0x2FBC2011 0x80000001 0x4 false false 0x10 false true ∧
    leaves 0x2FBC2011 0x80000000 0x1 false false 0x0 true true ∧
    leaves 0x33BC2011 0x10 0x4 true false 0xF0000001 false false ∧
    leaves 0x33BC2011 0x1 0x1 true false 0x80000000 false true ∧
    leaves 0x37BC2011 0x10 0x4 true false 0x10F false false ∧
    leaves 0x37BC2011 0x10 0x0 true false 0x10 false false ∧
    leaves 0x3BBC2011 0x80000010 0x4 false false 0xF8000001 false false ∧
    leaves 0x3BBC2011 0x80000000 0x1F false false 0xFFFFFFFF false false ∧
    leaves 0x3FBC2011 0xD 0x1C false false 0xB false true ∧
    leaves 0x3FBC2011 0x12345678 0x18 false false 0x1E false false ∧
    leaves 0x43BC2011 0xFFFFFFFF 0x5 false false 0x5 false true ∧
    leaves 0x43BC2011 0x5 0xFFFFFFFE false false 0x5 false false ∧
    leaves 0x47BC2011 0x64 0xFFFFFFFE false false 0xFFFFFFFE false false ∧
    leaves 0x47BC2011 0x80000000 0x7FFFFFFF false false 0x80000000 false true ∧
    leaves 0x4BBC2011 0x3 0x5 false false 0x5 false true ∧
    leaves 0x4BBC2011 0x0 0x0 false false 0x0 true false ∧
    leaves 0x4FBC2011 0xFFFFFFFF 0x5 false false 0x5 false false ∧
    leaves 0x4FBC2011 0x3 0x0 false false 0x0 true false ∧
    leaves 0x52BC2011 0xA0BC2011 0x1FF false false 0xA0BC21FF false false ∧
    leaves 0x52BC2011 0xFFFFFFFF 0x0 false false 0xFFFFFE00 false false ∧
    leaves 0x56BC2011 0xA0BC2011 0x1FF false false 0xA0BFFE11 false false := by
  decide +kernel

/-- V9, at most two rows for an instruction. -/
theorem test_step_alu_2 :
    leaves 0x56BC2011 0x0 0x1FF false false 0x3FE00 false false ∧
    leaves 0x5ABC2011 0xA0BC2011 0x1FF false false 0xFFBC2011 false false ∧
    leaves 0x5ABC2011 0x0 0xA1 false false 0x50800000 false false ∧
    leaves 0x63BC2011 0xFF00FF00 0xFF00FF0 false false 0xF000F00 false false ∧
    leaves 0x63BC2011 0xFFFFFFFF 0x7 false false 0x7 false true ∧
    leaves 0x67BC2011 0xFF00FF00 0xFF00FF0 false false 0xF000F000 false false ∧
    leaves 0x67BC2011 0x7 0x0 false false 0x7 false true ∧
    leaves 0x6BBC2011 0xFF00FF00 0xFF00FF0 false false 0xFFF0FFF0 false false ∧
    leaves 0x6BBC2011 0x0 0x1 false false 0x1 false true ∧
    leaves 0x6FBC2011 0xFF00FF00 0xFF00FF0 false false 0xF0F0F0F0 false false ∧
    leaves 0x6FBC2011 0x0 0x80000000 false false 0x80000000 false true ∧
    leaves 0x73BC2011 0xFF00FF00 0xFFFF true false 0xFF00FFFF false false ∧
    leaves 0x73BC2011 0xFFFF 0xFFFF false false 0x0 true false ∧
    leaves 0x77BC2011 0xFF00FF00 0xFFFF true false 0xFF000000 false false ∧
    leaves 0x77BC2011 0xFF00FF00 0xFFFF false false 0xFF00FFFF false false ∧
    leaves 0x7BBC2011 0xFF00FF00 0xFFFF false true 0xFF00FFFF false false ∧
    leaves 0x7BBC2011 0xFF00FF00 0xFFFF false false 0xFF000000 false false ∧
    leaves 0x7FBC2011 0xFF00FF00 0xFFFF false true 0xFF000000 false false ∧
    leaves 0x7FBC2011 0xFF00FF00 0xFFFF false false 0xFF00FFFF false false ∧
    leaves 0x83BC2011 0xFFFFFFFF 0x1 false false 0x0 true true ∧
    leaves 0x83BC2011 0x7FFFFFFF 0x1 false false 0x80000000 false false ∧
    leaves 0x87BC2011 0x0 0x1 false false 0xFFFFFFFF false true ∧
    leaves 0x87BC2011 0x80000000 0x1 false false 0x7FFFFFFF false false ∧
    leaves 0x8BBC2011 0xA 0xFFFFFFFD false false 0xD false false ∧
    leaves 0x8BBC2011 0xFFFFFFFF 0x80000000 false false 0x7FFFFFFF false true ∧
    leaves 0x8FBC2011 0xA 0xFFFFFFFD false false 0x7 false false ∧
    leaves 0x8FBC2011 0x3 0x3 false false 0x0 true false ∧
    leaves 0x93BC2011 0xA 0x3 true false 0x7 false false ∧
    leaves 0x93BC2011 0x7FFFFFFF 0x1 false false 0x80000000 false true := by
  decide +kernel

/-- V9, at most two rows for an instruction. -/
theorem test_step_alu_3 :
    leaves 0x97BC2011 0x7FFFFFFF 0x1 false false 0x7FFFFFFE false false ∧
    leaves 0x97BC2011 0xA 0x3 true false 0xD false false ∧
    leaves 0x9BBC2011 0xA 0x3 false true 0x7 false false ∧
    leaves 0x9BBC2011 0x3 0x3 false true 0x0 true false ∧
    leaves 0x9FBC2011 0xA 0x3 false true 0xD false false ∧
    leaves 0x9FBC2011 0xA 0x3 false false 0x7 false false ∧
    leaves 0xA3BC2011 0x1234 0x5 false false 0x5 false false ∧
    leaves 0xA3BC2011 0x7 0x0 false false 0x0 true false ∧
    leaves 0xA7BC2011 0x0 0x5 false false 0xFFFFFFFB false false ∧
    leaves 0xA7BC2011 0x0 0xFFFFFFFF false false 0x1 false true ∧
    leaves 0xABBC2011 0x0 0xFFFFFFFB false false 0x5 false true ∧
    leaves 0xABBC2011 0x0 0x0 false false 0x0 true false ∧
    leaves 0xAFBC2011 0x0 0x5 false false 0xFFFFFFFB false false ∧
    leaves 0xAFBC2011 0x0 0x0 false false 0x0 true false ∧
    leaves 0xB3BC2011 0x0 0x5 true false 0xFFFFFFFB false false ∧
    leaves 0xB3BC2011 0x0 0xFFFFFFFB true false 0x5 false true ∧
    leaves 0xB7BC2011 0x0 0x5 true false 0x5 false false ∧
    leaves 0xB7BC2011 0x0 0x5 false false 0xFFFFFFFB false false ∧
    leaves 0xBBBC2011 0x0 0x5 false true 0xFFFFFFFB false false ∧
    leaves 0xBBBC2011 0x0 0x5 false false 0x5 false false ∧
    leaves 0xBFBC2011 0x0 0x5 false true 0x5 false false ∧
    leaves 0xBFBC2011 0x0 0x5 false false 0xFFFFFFFB false false ∧
    leaves 0xC3BC2011 0xFFFFFFFF 0x1 false false 0xFFFFFFFE false true ∧
    leaves 0xC3BC2011 0x7FFFFFFF 0x80000000 false false 0xFFFFFFFF false false ∧
    leaves 0xC7BC2011 0x0 0x0 true true 0xFFFFFFFF false true ∧
    leaves 0xC7BC2011 0x6 0x5 true true 0x0 true false ∧
    leaves 0xCBBC2011 0xFFFFFFFF 0x0 true true 0x0 true true ∧
    leaves 0xCBBC2011 0xFFFFFFFF 0xFFFFFFFF true true 0xFFFFFFFF false true ∧
    leaves 0xCFBC2011 0x0 0x0 true true 0xFFFFFFFF false true := by
  decide +kernel

/-- V9, at most two rows for an instruction. -/
theorem test_step_alu_4 :
    leaves 0xCFBC2011 0x0 0xFFFFFFFF true true 0x0 true true ∧
    leaves 0xD3BC2011 0x7FFFFFFF 0x1 false false 0x80000000 false true ∧
    leaves 0xD3BC2011 0x5 0xFFFFFFFD false false 0x2 false false ∧
    leaves 0xD7BC2011 0x80000000 0x1 false false 0x7FFFFFFF false true ∧
    leaves 0xD7BC2011 0x5 0x5 false false 0x0 true false ∧
    leaves 0xDBBC2011 0x7FFFFFFF 0x0 true false 0x80000000 false true ∧
    leaves 0xDBBC2011 0x80000000 0xFFFFFFFF false false 0x7FFFFFFF false true ∧
    leaves 0xDFBC2011 0x80000000 0x0 true false 0x7FFFFFFF false true ∧
    leaves 0xDFBC2011 0x7FFFFFFF 0xFFFFFFFF false false 0x80000000 false true ∧
    leaves 0xE3BC2011 0x3 0xA false false 0x7 false false ∧
    leaves 0xE3BC2011 0x4 0x4 false false 0x0 true false ∧
    leaves 0xE7BC2011 0xA 0x3 false false 0x7 false true ∧
    leaves 0xE7BC2011 0x0 0x0 false false 0x0 true true ∧
    leaves 0xEABC2011 0x5 0x5 false false 0x0 true false ∧
    leaves 0xEABC2011 0xFFFFFFFF 0xFFFFFFFF false false 0x0 true false ∧
    leaves 0xEEBC2011 0x0 0x5 false false 0x5 false false ∧
    leaves 0xEEBC2011 0x0 0x0 false false 0x0 true false := by
  decide +kernel

/-- A word that never executes is a NOP also where it is no instruction and its D field, which is no
register operand, holds $1F6 or $1F7 (R132, R151, R158): RETA, CHKSPA, selector $008, a QUAD form with a
PTR expression, SETSPA #n. Where D is a register operand it may be a reference. -/
theorem test_never_executed_words :
    ([0x0C43EC1C, 0x0C43EC16, 0x0C43EC08, 0x0EC3EEB0, 0x0CC3ECA2, 0x0CC3ECE0, 0x0CC3EE80].all fun w : Nat =>
      (decode (BitVec.ofNat 32 w)).toOption == none &&
        conditionOfAnyWord (BitVec.ofNat 32 w) == some 0#4) ∧
    [0x0E43EC06, 0x0E43ECB0, 0x0C43ECE0, 0xE0080000].all fun w : Nat =>
      conditionOfAnyWord (BitVec.ofNat 32 w) == none := by
  decide +kernel

/-- A wait goes by the operands of its first try, whatever the registers hold later (R130, R595): WAITPNE
PINA,$011 with all pins unmasked ends once a pin has changed. -/
theorem test_wait_holds_its_operands :
    let pins (v : Nat) (s : State) : State :=
      { s with inputs := { s.inputs with pinIn := BitVec.ofNat 128 v } }
    let first := pins 5 (State.reset.setCog (put 0x11 0xFFFFFFFF State.reset.cog))
    let o : DSOps := ⟨15#4, .dir 0x1F8#9, .reg (.dir 0x011#9)⟩
    (match exec (.waitpne o) first with
      | .next t => t.cog.stalled && t.cog.held == some ⟨5#32, 0xFFFFFFFF#32, none⟩ &&
        (match exec (.waitpne o) (pins 4 t) with
          | .next u => u.cog.pcNow == 1#9 && u.cog.held == none
          | _ => false)
      | _ => false) = true := by decide +kernel

/-- Time does not pass the clock at which a WAITCNT is over, and its COG steps then (R596, R791). -/
theorem test_time_stops_where_a_waitcnt_ends :
    let s : State := { State.reset with
      cnt := 0xFFFFFFFE#64, cogs := State.reset.cogs.wr 5#3
        { resetCog with run := .running, held := some ⟨3#32, 0#32, some false⟩ } }
    let after (n : Nat) := passTime (BitVec.ofNat 64 n) s
    (after 4).cnt = 0x100000002#64 ∧ (after 5).cnt = 0x100000003#64 ∧
      (after 900).cnt = 0x100000003#64 ∧ (after 900).turn = 5#3 := by decide +kernel

/-! ### Witnesses: states and operands that meet the hypotheses of each statement

Every theorem `witness_<Name>` is about the statement `Obligations.<Name>`. -/

/-- Reset with the executing COG changed by `f`. -/
def at_ (f : Cog → Cog) : State := State.reset.setCog (f State.reset.cog)

def r10 : Reg := .dir 0x010#9
def s11 : Src := .reg (.dir 0x011#9)

/-- COG 0 with the QUADs mapped at $010 since long ago, so that $010 to $013 are QUADs. -/
def overQuads (c : Cog) : Cog := { c with qbase := 0x010#9 }

theorem ready_ds (b : Bool) : readyDS b 15#4 r10 s11 State.reset := by
  cases b <;> exact ⟨by decide +kernel, by decide +kernel, by decide +kernel⟩
theorem ready_ind (b : Bool) :
    readyDS b 15#4 (.ind .a 1#2) (.reg (.ind .a 2#2)) (at_ (flags true true)) := by
  cases b <;> exact ⟨by decide +kernel, by decide +kernel, by decide +kernel⟩
theorem ready_over_quads (b : Bool) : readyDS b 10#4 r10 s11 (at_ (flags true false ∘ overQuads)) := by
  cases b <;> exact ⟨by decide +kernel, by decide +kernel, by decide +kernel⟩
theorem ready_d (b : Bool) : readyD b 15#4 r10 State.reset := by
  cases b <;> exact ⟨by decide +kernel, by decide +kernel⟩
theorem ready_dn_reg : readyDn 15#4 (.reg r10) State.reset := ⟨by decide +kernel, by decide +kernel⟩
theorem ready_plain : readyPlain 15#4 State.reset := by unfold readyPlain; decide +kernel
theorem ready_dn_imm (n : BitVec 9) : readyDn 15#4 (.imm n) State.reset := ⟨ready_plain, rfl⟩

theorem witness_ShiftAndRotateResults : ∃ (o : AluOps) (s : State), readyDS true o.cond o.d o.s s :=
  ⟨⟨true, true, true, 15#4, r10, s11⟩, State.reset, ready_ds true⟩
theorem witness_LimitResults : ∃ (o : AluOps) (s : State), readyDS true o.cond o.d o.s s :=
  ⟨⟨true, true, false, 15#4, r10, s11⟩, State.reset, ready_ds true⟩
theorem witness_LogicResults : ∃ (o : AluOps) (s : State), readyDS true o.cond o.d o.s s :=
  ⟨⟨true, true, true, 15#4, .ind .a 1#2, .reg (.ind .a 2#2)⟩, at_ (flags true true), ready_ind true⟩
theorem witness_AddAndSubtractResults : ∃ (o : AluOps) (s : State), readyDS true o.cond o.d o.s s :=
  ⟨⟨true, true, true, 10#4, r10, s11⟩, at_ (flags true false ∘ overQuads), ready_over_quads true⟩
theorem witness_SignedSumResults : ∃ (o : AluOps) (s : State), readyDS true o.cond o.d o.s s :=
  ⟨⟨true, true, true, 15#4, r10, s11⟩, State.reset, ready_ds true⟩
theorem witness_ExtendedArithmeticResults :
    ∃ (o : AluOps) (s : State), readyDS true o.cond o.d o.s s ∧ s.cog.flagZ = true ∧ s.cog.flagC = true :=
  ⟨⟨true, true, true, 15#4, .ind .a 1#2, .reg (.ind .a 2#2)⟩, at_ (flags true true), ready_ind true,
    by decide +kernel, by decide +kernel⟩
theorem witness_MoveAndNegateResults : ∃ (o : AluOps) (s : State), readyDS false o.cond o.d o.s s :=
  ⟨⟨true, true, true, 15#4, r10, s11⟩, State.reset, ready_ds false⟩
theorem witness_FieldMoveEncodeAndModuloResults :
    ∃ (o : AluZOps) (s : State), readyDS false o.cond o.d o.s s ∧ readyDS true o.cond o.d o.s s :=
  ⟨⟨true, true, 15#4, r10, s11⟩, State.reset, ready_ds false, ready_ds true⟩
theorem witness_MultiplyAndAccumulateResults :
    (∃ (o : MulOps) (s : State), readyDS true o.cond o.d o.s s) ∧
    ∃ (o : DSOps) (s : State), readyDS true o.cond o.d o.s s :=
  ⟨⟨⟨true, 15#4, r10, s11⟩, State.reset, ready_ds true⟩, ⟨15#4, r10, s11⟩, State.reset, ready_ds true⟩
theorem witness_ClearAndFitAccumulators : ∃ (o : SelOps) (s : State), readyPlain o.cond s :=
  ⟨⟨true, 15#4⟩, State.reset, ready_plain⟩
theorem witness_CounterAndAccumulatorReads :
    ∃ (o : DZROps) (s t : State), readyD false o.cond o.d s ∧ s.cog.cntPhase = false ∧
      readyD false o.cond o.d t ∧ t.cog.cntPhase = true :=
  ⟨⟨true, true, 15#4, r10⟩, State.reset, at_ fun c => { c with cntPhase := true }, ready_d false,
    by decide +kernel, ⟨by decide +kernel, by decide +kernel⟩, by decide +kernel⟩
theorem witness_SingleOperandFunctionResults : ∃ (o : DZROps) (s : State), readyD true o.cond o.d s :=
  ⟨⟨true, true, 15#4, r10⟩, State.reset, ready_d true⟩
theorem witness_PatternAndSequenceResults :
    (∃ (o : DZROps) (s : State), readyD true o.cond o.d s) ∧
    (let ones := fun v : Word => (Finset.univ.filter fun i : Fin 32 => v.getLsbD i = true).card
     (∃ d v : Word, ones v = ones d ∧ d.toNat < v.toNat) ∧
     ∃ d : Word, ¬ ∃ v, ones v = ones d ∧ d.toNat < v.toNat) := by
  refine ⟨⟨⟨false, true, 15#4, r10⟩, State.reset, ready_d true⟩, ⟨6#32, 9#32, by decide, by decide⟩,
    BitVec.allOnes 32, ?_⟩
  rintro ⟨v, -, h⟩
  have : v.toNat < 2 ^ 32 := v.isLt
  have e : (BitVec.allOnes 32).toNat = 2 ^ 32 - 1 := by decide
  omega
theorem witness_FlagInstructionResults :
    (∃ (o : DZCROps) (s : State), readyD true o.cond o.d s) ∧
    ∃ (o : DnZCOps) (s : State), readyDn o.cond o.d s :=
  ⟨⟨⟨true, true, true, 15#4, r10⟩, State.reset, ready_d true⟩,
    ⟨true, true, 15#4, .imm 3#9⟩, State.reset, ready_dn_imm 3#9⟩
theorem witness_BitInstructionResults : ∃ (o : DBitOps) (s : State), readyD true o.cond o.d s :=
  ⟨⟨true, true, 15#4, r10, 31#5⟩, State.reset, ready_d true⟩

/-- The lowest RAM address in PTRA and the highest in PTRB. -/
def atEdges : State := at_ fun c => { c with ptra := 0x00E80#17, ptrb := 0x1FFFF#17 }

theorem witness_HubStoresWriteTheirBytesOnly :
    ∃ (o p : HubWrOps), ∀ k ∈ [0, 1, 2],
      (readyHub true o.cond o.d o.addr atEdges ∧ Memory.wf atEdges.mem = true ∧
        inRom (hubAddr k atEdges.inputs atEdges.cog o.addr) = false) ∧
      readyHub true p.cond p.d p.addr atEdges ∧ inRom (hubAddr k atEdges.inputs atEdges.cog p.addr) = false :=
  ⟨⟨15#4, r10, .ptr ⟨false, true, true, 1#6⟩⟩, ⟨15#4, r10, .ptr ⟨true, false, true, 0#6⟩⟩, by
    intro k hk
    fin_cases hk <;>
      exact ⟨⟨⟨by decide +kernel, by decide +kernel, rfl⟩, by decide +kernel, by decide +kernel⟩,
        ⟨by decide +kernel, by decide +kernel, rfl⟩, by decide +kernel⟩⟩
theorem witness_HubLoadsReadTheirBytes : ∃ (o : HubRdOps) (s : State), readyHub false o.cond o.d o.addr s :=
  ⟨⟨true, 15#4, r10, .reg (.dir 0x011#9)⟩, State.reset, by decide +kernel, rfl, by decide +kernel⟩

/-- The QUADs cache the block at 0 (a hit there, a miss at $10). -/
def cached : State :=
  at_ fun c => { c with qvalid := true, qtag := 0#13, ptra := 0x0000F#17, ptrb := 0x00010#17 }

theorem witness_CachedLoadsReadTheQuads :
    ∃ (o p : HubRdOps), readyHub false o.cond o.d o.addr cached ∧
      cacheHit cached.cog (hubAddr 0 cached.inputs cached.cog o.addr) = true ∧
      readyHub false p.cond p.d p.addr cached ∧
      cacheHit cached.cog (hubAddr 0 cached.inputs cached.cog p.addr) = false :=
  ⟨⟨true, 15#4, r10, .ptr ⟨false, false, true, 0#6⟩⟩, ⟨true, 15#4, r10, .ptr ⟨true, false, true, 0#6⟩⟩,
    ⟨by decide +kernel, rfl, rfl⟩, by decide +kernel, ⟨by decide +kernel, rfl, rfl⟩, by decide +kernel⟩
theorem witness_QuadTransfers :
    (∃ o : QuadOps, readyQuad o.cond o.addr atEdges ∧ Memory.wf atEdges.mem = true ∧
      inRom (hubAddr 4 atEdges.inputs atEdges.cog o.addr) = false) ∧
    ∃ o p : QuadOps, readyQuad o.cond o.addr cached ∧ readyQuad p.cond p.addr cached ∧
      cacheHit cached.cog (hubAddr 4 cached.inputs cached.cog o.addr) = true ∧
      cacheHit cached.cog (hubAddr 4 cached.inputs cached.cog p.addr) = false :=
  ⟨⟨⟨15#4, .ptr ⟨false, true, true, 1#6⟩⟩, ⟨by decide +kernel, rfl⟩, by decide +kernel, by decide +kernel⟩,
    ⟨15#4, .ptr ⟨false, false, true, 0#6⟩⟩, ⟨15#4, .ptr ⟨true, false, true, 0#6⟩⟩,
    ⟨by decide +kernel, rfl⟩, ⟨by decide +kernel, rfl⟩, by decide +kernel, by decide +kernel⟩
theorem witness_PtrExpressionAddresses : ∃ k l : Nat, k ≤ 4 ∧ l ≤ 4 ∧ k = 0 ∧ l = 4 := ⟨0, 4, by decide⟩
theorem witness_PointerInstructionResults :
    (∃ (o : DZCROps) (s : State), readyD false o.cond o.d s) ∧
    ∃ (o : DnOps) (s : State), readyDn o.cond o.d s :=
  ⟨⟨⟨true, true, true, 15#4, r10⟩, State.reset, ready_d false⟩, ⟨15#4, .reg r10⟩, State.reset, ready_dn_reg⟩
theorem witness_QuadControlResults :
    readyPlain 15#4 State.reset ∧ readyD false 15#4 r10 State.reset ∧
    ∀ n ∈ [0x1F2#9, 0x1F3#9, 0x1F7#9, 0x1F8#9],
      readyDn 15#4 (.imm n) State.reset ∧ numberOf 9 State.reset (.imm n) = n.setWidth 32 :=
  ⟨ready_plain, ready_d false, fun n _ => ⟨ready_dn_imm n, by simp [numberOf, dimmValue]⟩⟩

/-- COGSEL is `n`. -/
def selecting (n : BitVec 4) : State := at_ fun c => { c with cogsel := n }

/-- Every COG runs, and COGSEL asks for an idle one. -/
def allBusy : State :=
  { selecting 8#4 with cogs := (selecting 8#4).cogs.map fun c => { c with run := .running, cogsel := 8#4 } }

theorem witness_CoginitStartsOneCog :
    ∃ o : CogIniOps,
      (readyDS true o.cond o.d (.reg o.s) (selecting 7#4) ∧ (selecting 7#4).cog.cogsel.toNat = 7) ∧
      (readyDS true o.cond o.d (.reg o.s) (selecting 8#4) ∧ (selecting 8#4).cog.cogsel.toNat = 8 ∧
        isIdle ((selecting 8#4).cogs.rd 1#3) = true ∧
        ∀ m : CogId, m.toNat < (1#3 : CogId).toNat → isIdle ((selecting 8#4).cogs.rd m) = false) ∧
      readyDS true o.cond o.d (.reg o.s) allBusy ∧ allBusy.cog.cogsel.toNat = 8 ∧
        ∀ n : CogId, isIdle (allBusy.cogs.rd n) = false :=
  ⟨⟨true, true, true, 15#4, r10, .dir 0x011#9⟩,
    ⟨⟨by decide +kernel, by decide +kernel, by decide +kernel⟩, by decide +kernel⟩,
    ⟨⟨by decide +kernel, by decide +kernel, by decide +kernel⟩, by decide +kernel, by decide +kernel,
      by decide +kernel⟩,
    ⟨by decide +kernel, by decide +kernel, by decide +kernel⟩, by decide +kernel, by decide +kernel⟩

/-- Register $010 is `v`. -/
def ten (v : Nat) : State := at_ (put 0x10 v)

theorem witness_CogAndClockControl :
    readyD false 15#4 r10 State.reset ∧
    (readyD true 15#4 r10 (ten 1) ∧ BitVec.ofNat 3 (valueOf (ten 1) r10).toNat ≠ (ten 1).turn) ∧
    (readyD true 15#4 r10 (ten 8) ∧ BitVec.ofNat 3 (valueOf (ten 8) r10).toNat = (ten 8).turn) ∧
    (∀ v ∈ [0x000, 0x001, 0x002, 0x006, 0x003, 0x00F, 0x017, 0x0FF, 0x100, 0x1FF],
      readyD true 15#4 r10 (ten v) ∧ (valueOf (ten v) r10).toNat % 2 ^ 9 = v) := by
  refine ⟨ready_d false, ⟨⟨by decide +kernel, by decide +kernel⟩, by decide +kernel⟩, ⟨⟨by decide +kernel, by decide +kernel⟩, by decide +kernel⟩, ?_⟩
  intro v hv
  fin_cases hv <;> exact ⟨⟨by decide +kernel, by decide +kernel⟩, by decide +kernel⟩

/-- All locks but `k` are taken, and with 8 all are. -/
def locked (k : Nat) : State :=
  { State.reset with locks := Vector.ofFn fun i => ⟨false, decide (i.val ≠ k)⟩ }

theorem witness_LockInstructionResults :
    (∀ k ∈ [0#3, 7#3], readyD false 15#4 r10 (locked k.toNat) ∧
      ((locked k.toNat).locks.rd k).taken = false ∧
      ∀ m : BitVec 3, m.toNat < k.toNat → ((locked k.toNat).locks.rd m).taken = true) ∧
    (readyD false 15#4 r10 (locked 8) ∧ ∀ k : BitVec 3, ((locked 8).locks.rd k).taken = true) ∧
    readyD true 15#4 r10 (ten 7) := by
  refine ⟨?_, ⟨⟨by decide +kernel, rfl⟩, by decide +kernel⟩, ⟨by decide +kernel, by decide +kernel⟩⟩
  intro k hk
  fin_cases hk <;> exact ⟨⟨by decide +kernel, rfl⟩, by decide +kernel, by decide +kernel⟩
theorem witness_IndirectPointersStayInTheirRange :
    ∀ p ∈ [0x010#9, 0x011#9, 0x013#9], ∃ q : IndPtr, q = ⟨p, 0x010#9, 0x013#9⟩ ∧
      q.bot.toNat ≤ q.ptr.toNat ∧ q.ptr.toNat ≤ q.top.toNat := by
  intro p hp
  fin_cases hp <;> exact ⟨_, rfl, by decide, by decide⟩
theorem witness_StackPointerInstructionResults :
    readyDn 15#4 (.reg r10) State.reset ∧ readyPlain 15#4 State.reset ∧ readyD false 15#4 r10 State.reset :=
  ⟨ready_dn_reg, ready_plain, ready_d false⟩
theorem witness_PushAndPopResults : readyDn 15#4 (.imm 0x123#9) State.reset ∧ readyD false 15#4 r10 State.reset :=
  ⟨ready_dn_imm _, ready_d false⟩
theorem witness_StackCallAndReturnResults : readyDn 15#4 (.imm 0x040#9) State.reset ∧ readyPlain 15#4 State.reset :=
  ⟨ready_dn_imm _, ready_plain⟩
theorem witness_ReturnUndoesCall :
    ∃ (o : DnOps) (s : State), readyDn o.cond o.d s ∧ s.cog.video.inUse = false :=
  ⟨⟨15#4, .imm 0x040#9⟩, State.reset, ready_dn_imm _, by decide +kernel⟩
theorem witness_TaskSlotsRotateAndSettaskIsLate :
    (∃ (o : DnOps) (s : State), readyDn o.cond o.d s) ∧ ∃ c : Cog, c.taskWrites = [] ∧ c.task = 0xE4#32 :=
  ⟨⟨⟨15#4, .reg r10⟩, State.reset, ready_dn_reg⟩, { resetCog with task := 0xE4#32 }, rfl, rfl⟩
theorem witness_JmptaskForcesTheSelectedTasks :
    ∃ (o : DnMaskOps) (s : State), readyDn o.cond o.d s ∧ o.mask.getLsbD (3#2 : TaskId).toNat = true ∧
      o.mask.getLsbD s.cog.cur.toNat = false :=
  ⟨⟨15#4, .imm 0x040#9, 10#4⟩, State.reset, ready_dn_imm _, by decide, by decide +kernel⟩
theorem witness_JumpAndReturnAddressResults :
    (∃ (o : AluZOps) (s : State), readyDS (o.z || o.r) o.cond o.d o.s s) ∧
    (∃ (o : JumpOps) (s : State), readyDS false o.cond noReg o.s s) ∧
    (∃ (o : CallOps) (s : State), readyD true o.cond o.d s) ∧ readyPlain 15#4 State.reset :=
  ⟨⟨⟨true, true, 15#4, r10, s11⟩, State.reset, ready_ds true⟩,
    ⟨⟨15#4, .imm 0x040#9⟩, State.reset, by decide +kernel, rfl, rfl⟩,
    ⟨⟨15#4, r10, 0x040#9⟩, State.reset, ready_d true⟩, ready_plain⟩
theorem witness_TestedBranchResults :
    (∃ (o : DSROps) (s : State), readyDS true o.cond o.d o.s s) ∧
    (∃ (o : DSOps) (s : State), readyDS true o.cond o.d o.s s) ∧
    ∃ (o : D0Ops) (s : State), readyD true o.cond o.d s :=
  ⟨⟨⟨true, 15#4, r10, s11⟩, State.reset, ready_ds true⟩, ⟨⟨15#4, r10, s11⟩, State.reset, ready_ds true⟩,
    ⟨15#4, r10⟩, State.reset, ready_d true⟩

/-- The environment answers yes to all, and both counters run. -/
def eager : State :=
  { at_ (fun c => { c with ctra := { c.ctra with running := true }, ctrb := { c.ctrb with running := true } }) with
    inputs := { State.reset.inputs with
      vidReady := true, serTxReady := true, serRxReady := true, wrapa := true, wrapb := true } }

/-- COG 0 waits for 3, in the low half of CNT or the high one, and the half is 3: the wait is over, though
D differs now. -/
def heldOver (high : Bool) : State :=
  { at_ (fun c => { c with held := some ⟨3#32, 1#32, some high⟩ }) with
    cnt := if high then 0x300000005#64 else 0x500000003#64 }

theorem witness_WaitsCompleteWhenTheyMay :
    (∀ b : Bool, readyDS true 15#4 r10 s11 State.reset ∧
      (if b then State.reset.cnt.toNat / 2 ^ 32 else State.reset.cnt.toNat % 2 ^ 32) =
        (valueOf State.reset r10).toNat) ∧
    (∀ b : Bool, readyDS true 15#4 r10 s11 (heldOver b) ∧
      (heldOver b).cog.held = some ⟨3#32, 1#32, some b⟩ ∧
      (if b then (heldOver b).cnt.toNat / 2 ^ 32 else (heldOver b).cnt.toNat % 2 ^ 32) = (3#32 : Word).toNat) ∧
    (readyDS true 15#4 r10 s11 State.reset ∧
      portWindow State.reset.inputs.pinIn (State.reset.cog.por.rd 0#2) &&& sourceOf State.reset s11 =
        valueOf State.reset r10) ∧
    (readyDS true 15#4 r10 s11 (ten 1) ∧
      portWindow (ten 1).inputs.pinIn ((ten 1).cog.por.rd 0#2) &&& sourceOf (ten 1) s11 ≠ valueOf (ten 1) r10) ∧
    (readyDS true 15#4 r10 s11 eager ∧ readyD true 15#4 r10 eager ∧ readyD false 15#4 r10 eager ∧
      readyPlain 15#4 eager ∧ eager.inputs.vidReady = true ∧ eager.inputs.serTxReady = true ∧
      eager.inputs.serRxReady = true ∧ eager.cog.ctra.running = true ∧ eager.cog.ctrb.running = true ∧
      eager.inputs.wrapa = true ∧ eager.inputs.wrapb = true) ∧
    readyD true 15#4 r10 State.reset ∧ State.reset.inputs.serTxReady = false ∧
    readyD false 15#4 r10 State.reset ∧ State.reset.inputs.serRxReady = false := by
  refine ⟨fun b => ⟨ready_ds true, ?_⟩, fun b => ?_, ⟨ready_ds true, by decide +kernel⟩,
    ⟨⟨by decide +kernel, by decide +kernel, by decide +kernel⟩, by decide +kernel⟩,
    ⟨⟨by decide +kernel, by decide +kernel, by decide +kernel⟩, ⟨by decide +kernel, by decide +kernel⟩,
      ⟨by decide +kernel, by decide +kernel⟩, ?_, rfl, rfl, rfl, by decide +kernel, by decide +kernel,
      rfl, rfl⟩, ready_d true, rfl, ready_d false, rfl⟩
  · cases b <;> decide +kernel
  · cases b <;> exact ⟨⟨by decide +kernel, by decide +kernel, by decide +kernel⟩, by decide +kernel, by decide +kernel⟩
  · unfold readyPlain; decide +kernel

/-- WAITCNT $010,$011 lies at address 0, and $010 is not the time. -/
def waiting : State := at_ (put 0 0xFCBC2011 ∘ put 0x10 5)

theorem witness_WaitsStallOtherwise :
    (∀ b : Bool, readyDS true 15#4 r10 s11 (ten 1) ∧
      (if b then (ten 1).cnt.toNat % 2 ^ 64 / 2 ^ 32 else (ten 1).cnt.toNat % 2 ^ 32) ≠
        (valueOf (ten 1) r10).toNat) ∧
    (portWindow (ten 1).inputs.pinIn ((ten 1).cog.por.rd 0#2) &&& sourceOf (ten 1) s11 ≠ valueOf (ten 1) r10 ∧
      readyDS true 15#4 r10 s11 State.reset ∧
      portWindow State.reset.inputs.pinIn (State.reset.cog.por.rd 0#2) &&& sourceOf State.reset s11 =
        valueOf State.reset r10 ∧
      State.reset.inputs.vidReady = false ∧ State.reset.inputs.serTxReady = false ∧
      State.reset.inputs.serRxReady = false ∧ readyD true 15#4 r10 State.reset ∧
      readyD false 15#4 r10 State.reset ∧ readyPlain 15#4 State.reset ∧
      (State.reset.cog.ctra.running && State.reset.inputs.wrapa) = false ∧
      (State.reset.cog.ctrb.running && State.reset.inputs.wrapb) = false) ∧
    (∃ t, waiting.cog.run = .running ∧ waiting.cog.nops = 0#32 ∧ cycle waiting = .next t ∧
      t.cog.stalled = true) ∧
    ∀ b : Bool, ((heldOver b).cogs.rd 0#3).run = .running ∧
      ((heldOver b).cogs.rd 0#3).held = some ⟨3#32, 1#32, some b⟩ := by
  refine ⟨fun b => ⟨⟨by decide +kernel, by decide +kernel, by decide +kernel⟩, ?_⟩,
    ⟨by decide +kernel, ready_ds true, by decide +kernel, rfl, rfl, rfl, ready_d true, ready_d false,
      ready_plain, by decide +kernel, by decide +kernel⟩, ?_, fun b => by cases b <;> decide +kernel⟩
  · cases b <;> decide +kernel
  · have h : (match cycle waiting with | .next t => t.cog.stalled | _ => false) = true := by decide +kernel
    split at h
    · next t ht => exact ⟨t, by decide +kernel, by decide +kernel, ht, h⟩
    · cases h
theorem witness_PinAndPortInstructionResults :
    readyDn 15#4 (.imm 0x07F#9) State.reset ∧ readyDn 15#4 (.reg r10) State.reset ∧
    readyDS true 15#4 r10 s11 (ten 0x80000001) ∧
    (valueOf (ten 0x80000001) r10).getLsbD ((0#7 : BitVec 7).toNat % 32) = true ∧
    (valueOf (ten 0x80000001) r10).getLsbD ((31#7 : BitVec 7).toNat % 32) = true :=
  ⟨ready_dn_imm _, ready_dn_reg, ⟨by decide +kernel, by decide +kernel, by decide +kernel⟩,
    by decide +kernel, by decide +kernel⟩
theorem witness_DeviceRegisterWrites : ∃ (o : DnOps) (s : State), readyDn o.cond o.d s :=
  ⟨⟨15#4, .reg r10⟩, State.reset, ready_dn_reg⟩
theorem witness_CounterModuleWrites :
    (∃ (o : DnOps) (s : State), readyDn o.cond o.d s) ∧ ∃ (o : IgnOps) (s : State), readyPlain o.cond s :=
  ⟨⟨⟨15#4, .imm 3#9⟩, State.reset, ready_dn_imm _⟩, ⟨false, 15#4, 0#9⟩, State.reset, ready_plain⟩
theorem witness_DeviceReads :
    (∃ (o : DZROps) (s : State), readyD false o.cond o.d s) ∧ ∃ (o : PollOps) (s : State), readyPlain o.cond s :=
  ⟨⟨⟨true, true, 15#4, r10⟩, State.reset, ready_d false⟩, ⟨true, 15#4⟩, State.reset, ready_plain⟩
theorem witness_RepeatSkipAndIdleSetup :
    ∃ (o : RepeatOps) (s : State), readyDn o.cond o.d s ∧ numberOf 9 s o.d ≠ 0#32 ∧ o.len ≠ 0#5 :=
  ⟨⟨15#4, .imm 1#9, 1#5⟩, State.reset, ready_dn_imm _, by decide, by decide⟩

/-- The last instruction of a block of two at $010, with `n` passes left. -/
def atBlockEnd (n : Nat) : Cog :=
  jump 0x011#9 { resetCog with rep := ⟨BitVec.ofNat 32 n, 2#5, 0x010#9, 0#2⟩ }

theorem witness_RepeatBlockRuns :
    (∀ n ∈ [1, 2], (atBlockEnd n).rep.count.toNat ≠ 0 ∧ (atBlockEnd n).rep.task = (atBlockEnd n).cur ∧
      (atBlockEnd n).pcNow =
        BitVec.ofNat 9 ((atBlockEnd n).rep.start.toNat + (atBlockEnd n).rep.len.toNat + 511)) ∧
    (atBlockEnd 0).rep.count.toNat = 0 := by
  refine ⟨?_, by decide +kernel⟩
  intro n hn
  fin_cases hn <;> exact ⟨by decide +kernel, by decide +kernel, by decide +kernel⟩

/-- PTRA at the last ROM address; the QUADs are mapped at $010 and were just filled or mapped. -/
def belowRam : State := at_ fun c => { c with ptra := 0x00E7F#17 }
def tooFresh (fill map : Nat) : State := at_ fun c => { c with qbase := 0x010#9, fillAge := fill, mapAge := map }

theorem witness_StopsTheRulesGive :
    (∀ k ∈ [0, 1, 2], readyHub true 15#4 r10 (.ptr ⟨false, false, true, 0#6⟩) belowRam ∧
      (hubAddr k belowRam.inputs belowRam.cog (.ptr ⟨false, false, true, 0#6⟩)).toNat < 0xE80) ∧
    (readyQuad 15#4 (.ptr ⟨false, false, true, 0#6⟩) belowRam ∧
      (hubAddr 4 belowRam.inputs belowRam.cog (.ptr ⟨false, false, true, 0#6⟩)).toNat < 0xE80) ∧
    readyDn 15#4 (.reg r10) State.reset ∧ readyDS false 15#4 r10 s11 State.reset ∧
    readyD false 15#4 r10 State.reset ∧
    ∀ f ∈ [(3, 5), (5, 2)], executes (tooFresh f.1 f.2).cog 15#4 false = true ∧
      (tooFresh f.1 f.2).cog.qbase.toNat < 0x1F8 ∧
      (tooFresh f.1 f.2).cog.qbase.toNat ≤ (addrOf (tooFresh f.1 f.2) (.dir 0x013#9)).toNat ∧
      (addrOf (tooFresh f.1 f.2) (.dir 0x013#9)).toNat < (tooFresh f.1 f.2).cog.qbase.toNat + 4 ∧
      ((tooFresh f.1 f.2).cog.fillAge < 4 ∨ (tooFresh f.1 f.2).cog.mapAge < 3) := by
  refine ⟨?_, ⟨⟨by decide +kernel, rfl⟩, by decide +kernel⟩, ready_dn_reg, ready_ds false, ready_d false, ?_⟩
  · intro k hk
    fin_cases hk <;> exact ⟨⟨by decide +kernel, by decide +kernel, rfl⟩, by decide +kernel⟩
  · intro f hf
    fin_cases hf <;>
      exact ⟨by decide +kernel, by decide +kernel, by decide +kernel, by decide +kernel, by decide +kernel⟩
theorem witness_CallFrameLayout :
    (∃ (o : DnOps) (s : State), readyDn o.cond o.d s) ∧
    ∃ (o : NoDOps) (s : State) (v : Word), readyPlain o.cond s ∧ v = 0xFFFFF800#32 ∧
      ∀ i, i < 11 → v.getLsbD i = (s.cog.stk.rd (s.cog.sp .a - 1#8)).getLsbD i :=
  ⟨⟨⟨15#4, .imm 0x040#9⟩, State.reset, ready_dn_imm _⟩, ⟨true, true, 15#4⟩, State.reset, 0xFFFFF800#32,
    ready_plain, rfl, by decide +kernel⟩
theorem witness_QuadWindowOverlaysSpecialRegisters :
    ∀ a ∈ [0x1F8#9, 0x1FB#9, 0x1FC#9, 0x1FF#9],
      ¬ resetCog.qbase.toNat < 0x1F8 ∧ 0x1F8 ≤ (a : RegAddr).toNat := by
  intro a ha
  fin_cases ha <;> decide +kernel
theorem witness_QuadWindowOverlaysRegisters :
    (∀ a ∈ [0x010#9, 0x013#9], let c := jump a (overQuads resetCog)
      c.qbase.toNat < 0x1F8 ∧ c.qbase.toNat ≤ a.toNat ∧ a.toNat < c.qbase.toNat + 4 ∧ c.pcNow = a) ∧
    (∀ a ∈ [0x00F#9, 0x014#9, 0x1F7#9], let c := jump a (overQuads resetCog)
      ¬ (c.qbase.toNat ≤ a.toNat ∧ a.toNat < c.qbase.toNat + 4) ∧ a.toNat < 0x1F8 ∧ c.pcNow = a) := by
  constructor <;> intro a ha <;> fin_cases ha <;> decide +kernel
theorem witness_FailedConditionIsNop :
    ∃ (o : AluOps) (s : State), (o.d.isInd || o.s.isInd) = false ∧
      o.cond.getLsbD ((if s.cog.flagC then 2 else 0) + (if s.cog.flagZ then 1 else 0)) = false :=
  ⟨⟨true, true, true, 7#4, r10, s11⟩, at_ (flags true true), rfl, by decide +kernel⟩

/-- ADD $010,$011 lies at address 0. -/
def aboutToAdd : State := at_ (put 0 0x80BC2011)

/-- A step of `s` runs COG 0, which has no NOPs to spend and is not in the shadow of a branch. -/
def slotRuns (s : State) : Bool := s.cog.run == .running && s.cog.nops == 0#32 && !slotCancelled s.cog

/-- Its fetch is admitted, and SETSKIP lets it execute. -/
def slotFetches (s : State) : Bool :=
  let c := beginSlot s.cog
  slotRuns s && decide (c.pcNow.toNat < 0x1F6) && !skipsThis c && !changedTooRecently c && !quadFetchHazard c

/-- A bad word that executes, and one that does not: MOVI with WC, and with the condition "never". -/
def badWordAt0 (cond : Nat) : State := at_ (put 0 (0x59C02011 + cond * 0x40000))

theorem witness_StepRunsTheDecodedInstruction :
    (slotFetches aboutToAdd = true ∧
      ∃ i, decode (fetch (beginSlot aboutToAdd.cog)) = .ok i) ∧
    (let s := at_ (jump 0x010#9);
      s.cog.run = .running ∧ s.cog.nops = 0#32 ∧ slotCancelled s.cog = true) ∧
    (∀ a ∈ [0x1F6#9, 0x1FF#9], let s := at_ fun c => c.setTsk { c.tsk with pc := a };
      slotRuns s = true ∧ 0x1F6 ≤ (beginSlot s.cog).pcNow.toNat) ∧
    (let s := at_ fun c => { c with skip := 1#32 };
      slotRuns s = true ∧ (beginSlot s.cog).pcNow.toNat < 0x1F6 ∧ skipsThis (beginSlot s.cog) = true) ∧
    (∀ f ∈ ([(some 0#9, none), (none, some 0#9)] : List (Option RegAddr × Option RegAddr)),
      let s := at_ fun c => { c with wrote0 := f.1, wrote1 := f.2 };
      slotRuns s = true ∧ skipsThis (beginSlot s.cog) = false ∧ changedTooRecently (beginSlot s.cog) = true) ∧
    (∀ f ∈ [(3, 5), (5, 3)], let s := at_ fun c => { c with qbase := 0#9, fillAge := f.1, mapAge := f.2 };
      slotRuns s = true ∧ skipsThis (beginSlot s.cog) = false ∧ changedTooRecently (beginSlot s.cog) = false ∧
        quadFetchHazard (beginSlot s.cog) = true) ∧
    ∀ cond ∈ [0, 15], let s := badWordAt0 cond;
      slotFetches s = true ∧ decode (fetch (beginSlot s.cog)) = .error .effectBit ∧
        conditionOfAnyWord (fetch (beginSlot s.cog)) = some (BitVec.ofNat 4 cond) := by
  refine ⟨⟨by decide +kernel, .add ⟨false, false, true, 15#4, r10, s11⟩, by decide +kernel⟩, by decide +kernel,
    ?_, by decide +kernel, ?_, ?_, ?_⟩
  all_goals intro f hf; fin_cases hf <;> decide +kernel

/-- Task 0 of a COG with TASK = `task` branches; then the cycles begin, one after the other. -/
def afterBranch (delayed : Bool) (task : Word) (n : Nat) : Cog :=
  beginSlot^[n] (branchIf true delayed 0x040#9 { resetCog with task := task })

/-- TASK after the slot 0 of %%3210 and of %%0000: the next slot of task 0 is the fourth, or the first. -/
theorem witness_BranchShadowAndDelay :
    (∀ m, afterBranch false 0x39393939#32 (m + 1) = beginSlot (afterBranch false 0x39393939#32 m)) ∧
    (∀ b : Bool, afterBranch b 0x39393939#32 0 =
      (if b then jumpDelayed 0x040#9 else jump 0x040#9) { resetCog with task := 0x39393939#32 }) ∧
    resetCog.cur = 0#2 ∧ resetCog.tsk.flush = 0 ∧ resetCog.tsk.delayed = [] ∧
    (∀ b : Bool, slotTask (afterBranch b 0x39393939#32 3) = 0#2 ∧
      ∀ n ∈ [0, 2, 3], slotTask (afterBranch b 0#32 n) = 0#2) := by
  refine ⟨fun m => Function.iterate_succ_apply' _ _ _, fun b => by cases b <;> rfl, by decide +kernel,
    by decide +kernel, by decide +kernel, fun b => ?_⟩
  cases b <;> exact ⟨by decide +kernel, fun n hn => by fin_cases hn <;> decide +kernel⟩
theorem witness_LoadingIdleAndNopSteps :
    (∃ s : State, s.cog.run = .idle) ∧ (∃ s : State, s.cog.run = .stuck) ∧
    (∀ left ∈ [[0x1F7#9], [0x005#9, 0x000#9]], ∃ s : State, s.cog.run = .loading left 0x01000#17 ∧
      left ≠ [] ∧ alignTo 2 0x01000#17 = 0x01000#17) ∧
    ∃ s : State, s.cog.run = .running ∧ s.cog.nops ≠ 0#32 := by
  refine ⟨⟨at_ fun c => { c with run := .idle }, by decide +kernel⟩,
    ⟨at_ fun c => { c with run := .stuck }, by decide +kernel⟩, ?_,
    ⟨at_ fun c => { c with nops := 1#32 }, by decide +kernel⟩⟩
  intro left hl
  refine ⟨at_ fun c => { c with run := .loading left 0x01000#17 }, ?_⟩
  fin_cases hl <;> exact ⟨by decide +kernel, by decide, by decide⟩

/-- COG 0 executes the NOPs of a NOPX, the others are idle. -/
def inNopx : State := at_ fun c => { c with nops := 2#32 }

theorem inNopx_inv : Inv inNopx := by
  refine ⟨by decide +kernel, fun n hn => ?_, fun _ => by decide +kernel⟩
  have h0 : n = 0#3 := by revert hn; revert n; decide +kernel
  subst h0
  refine ⟨fun k => ⟨?_, ?_⟩, ?_, by decide +kernel, by decide +kernel, by decide +kernel, ?_⟩
  · revert k; decide +kernel
  · have h : ∀ k, ((inNopx.cogs.rd 0#3).tasks.rd k).delayed = [] := by decide +kernel
    intro e he; rw [h] at he; cases he
  · have h : (inNopx.cogs.rd 0#3).taskWrites = [] := by decide +kernel
    intro e he; rw [h] at he; cases he
  · have h : (inNopx.cogs.rd 0#3).run = .running := by decide +kernel
    intro left a h1; rw [h] at h1; cases h1
theorem inNopx_steps : ∃ t, step inNopx = .next t := by
  have h1 : inNopx.cog.run = .running := by decide +kernel
  have h2 : inNopx.cog.nops ≠ 0#32 := by decide +kernel
  exact ⟨_, by rw [step, cogStep, h1]; simp only [h2, ne_eq, not_false_eq_true, if_true]; rfl⟩

theorem witness_StepKeepsTheInvariant : ∃ s t : State, Inv s ∧ step s = .next t :=
  ⟨inNopx, inNopx_steps.choose, inNopx_inv, inNopx_steps.choose_spec⟩
theorem witness_RomNeverChanges :
    ∃ s t : State, Inv s ∧ step s = .next t ∧ ∃ a b : HubAddress, a.toNat < 0xE80 ∧ a.toNat = 0x1F ∧ b.toNat = 0xE7F :=
  ⟨inNopx, inNopx_steps.choose, inNopx_inv, inNopx_steps.choose_spec, 0x0001F#17, 0x00E7F#17, by decide⟩
theorem witness_SharedStateHasOwners : ∃ (i : Instr) (s t : State), exec i s = .next t :=
  ⟨.add ⟨true, true, true, 0#4, r10, s11⟩, State.reset, skipSlot State.reset, rfl⟩
theorem witness_TasksKeepTheirOwnFlags :
    (∃ s t, exec (.add ⟨true, true, true, 0#4, r10, s11⟩) s = .next t) ∧
    ∃ s t, exec (.jmptask ⟨0#4, .imm 0x040#9, 10#4⟩) s = .next t :=
  ⟨⟨State.reset, skipSlot State.reset, rfl⟩, State.reset, skipSlot State.reset, rfl⟩
theorem witness_MemoryReadsBackWhatWasWritten :
    (∃ (m : List Host.Cell) (a b : HubAddress), Memory.wf m = true ∧ a.toNat = 0xE80 ∧ b.toNat = 0xE83) ∧
    ∃ m n : List Host.Cell, m ≠ [] ∧ Memory.wf m = true ∧ Memory.wf n = true ∧
      ∀ a, readByte m a = readByte n a :=
  ⟨⟨[(0xE80, 1#8)], 0x00E80#17, 0x00E83#17, by decide⟩, [(0xE80, 1#8)], [(0xE80, 1#8)], by decide, rfl, rfl,
    fun _ => rfl⟩
theorem witness_DecodeUndoesEncode :
    (∃ i : Instr, i.wellFormed = true ∧ hasOwnWords i = true) ∧
    ∃ (i : Instr) (w : Word), i.wellFormed = true ∧ hasOwnWords i = false ∧ encode i = some w :=
  ⟨⟨.add ⟨true, true, true, 15#4, r10, s11⟩, rfl, rfl⟩, .ret ⟨15#4⟩, 0x1C7C0000#32, rfl, rfl, by decide +kernel⟩
theorem witness_EncodeUndoesDecode : ∃ (w : Word) (i : Instr), decode w = .ok i :=
  ⟨0x80BC2011#32, .add ⟨false, false, true, 15#4, r10, s11⟩, by decide +kernel⟩

end Sys2Proof.Tests
end

section
/-!
What an instruction may do to its own COG: the relation `OwnStep`, and that every shared operation on a
COG stays inside it.
-/
namespace Sys2Proof.Machine

/-! ### What an instruction may do to its own COG -/

/-- The part of a COG that the invariant and the ownership of tasks speak about. -/
structure Pipeline where
  run        : RunState
  tasks      : Bank 2 TaskRegs
  cur        : TaskId
  taskWrites : List TaskWrite
  qbase      : RegAddr
  fillAge    : Nat
  mapAge     : Nat

def Cog.pipeline (c : Cog) : Pipeline :=
  ⟨c.run, c.tasks, c.cur, c.taskWrites, c.qbase, c.fillAge, c.mapAge⟩

/-- What an instruction may make of its own COG `c`: the run state and the executing task stay, other
tasks keep their flags, and all else of theirs unless `jumps` (JMPTASK); a COG in order stays so. -/
structure OwnStep (jumps : Bool) (c d : Cog) : Prop where
  run    : d.run = c.run
  cur    : d.cur = c.cur
  flags  : ∀ k, k ≠ c.cur →
    (d.tasks.rd k).z = (c.tasks.rd k).z ∧ (d.tasks.rd k).c = (c.tasks.rd k).c
  others : jumps = false → ∀ k, k ≠ c.cur → d.tasks.rd k = c.tasks.rd k
  ok     : CogOk c → CogOk d

theorem CogOk.of_pipeline {c d : Cog} (h : d.pipeline = c.pipeline) (hc : CogOk c) : CogOk d := by
  simp only [Cog.pipeline, Pipeline.mk.injEq] at h
  obtain ⟨run, tasks, -, writes, qbase, fill, map⟩ := h
  exact ⟨tasks ▸ hc.tasks, writes ▸ hc.taskWrites, qbase ▸ hc.qbase, fill ▸ hc.fillAge,
    map ▸ hc.mapAge, run ▸ hc.loading⟩

namespace OwnStep

variable {j : Bool} {c d : Cog}

theorem refl (j : Bool) (c : Cog) : OwnStep j c c :=
  ⟨rfl, rfl, fun _ _ => ⟨rfl, rfl⟩, fun _ _ _ => rfl, id⟩

theorem trans {e : Cog} (h : OwnStep j c d) (g : OwnStep j d e) : OwnStep j c e where
  run := g.run.trans h.run
  cur := g.cur.trans h.cur
  flags k hk :=
    have hd := h.flags k hk
    have he := g.flags k (h.cur ▸ hk)
    ⟨he.1.trans hd.1, he.2.trans hd.2⟩
  others hj k hk := (g.others hj k (h.cur ▸ hk)).trans (h.others hj k hk)
  ok := g.ok ∘ h.ok

theorem of_pipeline (h : d.pipeline = c.pipeline) : OwnStep j c d := by
  have hp := h
  simp only [Cog.pipeline, Pipeline.mk.injEq] at hp
  obtain ⟨run, tasks, cur, -⟩ := hp
  exact ⟨run, cur, fun k _ => by rw [tasks]; exact ⟨rfl, rfl⟩, fun _ k _ => by rw [tasks],
    CogOk.of_pipeline h⟩

/-- A change of other state than the pipeline. -/
theorem keep {e : Cog} (h : OwnStep j c d) (he : e.pipeline = d.pipeline) : OwnStep j c e :=
  h.trans (of_pipeline he)

/-- A new record for the executing task. -/
theorem setTsk {t : TaskRegs} (ht : TaskOk c.tsk → TaskOk t) : OwnStep j c (c.setTsk t) where
  run := rfl
  cur := rfl
  flags k hk := by rw [Cog.setTsk_tasks, Bank.rd_wr_ne _ _ hk]; exact ⟨rfl, rfl⟩
  others _ k hk := by rw [Cog.setTsk_tasks, Bank.rd_wr_ne _ _ hk]
  ok h :=
    { h with
      tasks := fun k => by
        rw [Cog.setTsk_tasks, Bank.rd_wr]
        split
        · exact ht (h.tasks c.cur)
        · exact h.tasks k }

end OwnStep

theorem TaskOk.congr {t u : TaskRegs} (hf : u.flush = t.flush) (hd : u.delayed = t.delayed)
    (h : TaskOk t) : TaskOk u := ⟨hf ▸ h.flush, hd ▸ h.delayed⟩

theorem TaskOk.jumped (z c : Bool) (target : RegAddr) : TaskOk ⟨z, c, target, 3, []⟩ :=
  ⟨le_rfl, fun _ h => nomatch h⟩

theorem pipeline_writeQuadOver (c : Cog) (a : RegAddr) (v : Word) :
    (writeQuadOver c a v).pipeline = c.pipeline := by
  unfold writeQuadOver
  split <;> rfl

theorem pipeline_writeSpecial (c : Cog) (a : RegAddr) (v : Word) :
    (writeSpecial c a v).pipeline = c.pipeline := by
  unfold writeSpecial
  split <;> rfl

theorem pipeline_writeReg (c : Cog) (a : RegAddr) (v : Word) :
    (writeReg c a v).pipeline = c.pipeline := by
  have hquad := pipeline_writeQuadOver c a v
  unfold writeReg
  split
  · exact (pipeline_writeSpecial _ a v).trans hquad
  · exact hquad

theorem pipeline_setSp (c : Cog) (x : Ind) (v : BitVec 8) : (c.setSp x v).pipeline = c.pipeline := by
  cases x <;> rfl

theorem pipeline_pushUp (x : Ind) (v : Word) (c : Cog) : (pushUp x v c).pipeline = c.pipeline := by
  cases x <;> rfl

theorem pipeline_pushDown (x : Ind) (v : Word) (c : Cog) :
    (pushDown x v c).pipeline = c.pipeline := by
  cases x <;> rfl

theorem pipeline_ptrAfter (k : Nat) (e : PtrExpr) (c : Cog) :
    (ptrAfter k e c).pipeline = c.pipeline := by
  unfold ptrAfter
  split
  · split <;> rfl
  · rfl

theorem pipeline_hubAfter (k : Nat) (x : HubOperand) (c : Cog) :
    (hubAfter k x c).pipeline = c.pipeline := by
  cases x with
  | reg x => rfl
  | ptr e => exact pipeline_ptrAfter k e c

namespace OwnStep

variable {j : Bool} {c d : Cog}

theorem writeReg (h : OwnStep j c d) (a : RegAddr) (v : Word) :
    OwnStep j c (Machine.writeReg d a v) := h.keep (pipeline_writeReg d a v)

theorem writeD (h : OwnStep j c d) (r : Bool) (a : RegAddr) (v : Word) :
    OwnStep j c (Machine.writeD r a v d) := by
  cases r
  · exact h
  · exact h.writeReg a v

theorem writeZ (h : OwnStep j c d) (z b : Bool) : OwnStep j c (Machine.writeZ z b d) := by
  cases z
  · exact h
  · exact h.trans (setTsk (TaskOk.congr rfl rfl))

theorem writeC (h : OwnStep j c d) (w b : Bool) : OwnStep j c (Machine.writeC w b d) := by
  cases w
  · exact h
  · exact h.trans (setTsk (TaskOk.congr rfl rfl))

theorem deliver (h : OwnStep j c d) (z r : Bool) (a : RegAddr) (v : Word) :
    OwnStep j c (Machine.deliver z r a v d) := (h.writeD r a v).writeZ z _

theorem putOut (h : OwnStep j c d) (z w r : Bool) (a : RegAddr) (x : AluOut) :
    OwnStep j c (Machine.putOut z w r a x d) := ((h.writeD r a x.v).writeZ z x.z).writeC w x.c

theorem branchIf (h : OwnStep j c d) (b delayed : Bool) (target : RegAddr) :
    OwnStep j c (Machine.branchIf b delayed target d) := by
  cases b
  · exact h
  cases delayed
  · exact h.trans (setTsk fun _ => TaskOk.jumped _ _ _)
  · refine h.trans (setTsk fun ht => ⟨ht.flush, fun e he => ?_⟩)
    rcases List.mem_append.1 he with he | he
    · exact ht.delayed e he
    · rw [List.mem_singleton.1 he]

theorem advance (h : OwnStep j c d) : OwnStep j c (Machine.advance d) :=
  (h.trans (setTsk (t := { d.tsk with pc := (nextPc d).1 }) (TaskOk.congr rfl rfl))).keep rfl

theorem enter (x y : Reg) (h : OwnStep j c d) : OwnStep j c (Machine.enter x y d) :=
  (h.keep rfl : OwnStep j c (stepPointers x y d)).advance

theorem hubAfter (h : OwnStep j c d) (k : Nat) (x : HubOperand) :
    OwnStep j c (Machine.hubAfter k x d) := h.keep (pipeline_hubAfter k x d)

theorem cacheFill (h : OwnStep j c d) (m : List Host.Cell) (ea : HubAddress) :
    OwnStep j c (Machine.cacheFill m ea d) :=
  h.trans ⟨rfl, rfl, fun _ _ => ⟨rfl, rfl⟩, fun _ _ _ => rfl,
    fun hd => { hd with fillAge := Nat.zero_le _ }⟩

theorem cacheLoad (h : OwnStep j c d) (m : List Host.Cell) (ea : HubAddress) :
    OwnStep j c (Machine.cacheLoad m ea d) := by
  unfold Machine.cacheLoad
  split
  · exact h
  · exact h.cacheFill m ea

theorem mapQuads (h : OwnStep j c d) {b : RegAddr} (hb : badQuadBase b = false) :
    OwnStep j c (Machine.mapQuads b d) :=
  h.trans ⟨rfl, rfl, fun _ _ => ⟨rfl, rfl⟩, fun _ _ _ => rfl, fun hd =>
    { hd with
      qbase := hb
      mapAge := by
        show (if b = d.qbase then d.mapAge else 0) ≤ longAgo
        split
        · exact hd.mapAge
        · exact Nat.zero_le _ }⟩

theorem addTaskWrite (h : OwnStep j c d) (v : Word) :
    OwnStep j c { d with taskWrites := d.taskWrites ++ [⟨v, 3⟩] } :=
  h.trans ⟨rfl, rfl, fun _ _ => ⟨rfl, rfl⟩, fun _ _ _ => rfl, fun hd =>
    { hd with
      taskWrites := fun e he => by
        rcases List.mem_append.1 he with he | he
        · exact hd.taskWrites e he
        · rw [List.mem_singleton.1 he] }⟩

theorem jumpIfMasked (h : OwnStep true c d) (mask : BitVec 4) (k : TaskId) (target : RegAddr) :
    OwnStep true c (Machine.jumpIfMasked mask k target d) := by
  unfold Machine.jumpIfMasked
  split
  · refine h.trans ⟨rfl, rfl, fun i _ => ?_, Bool.noConfusion, fun hd =>
      { hd with tasks := fun i => ?_ }⟩
    · rw [jumpTask, Bank.rd_wr]
      split
      · next e => rw [e]; exact ⟨rfl, rfl⟩
      · exact ⟨rfl, rfl⟩
    · rw [jumpTask, Bank.rd_wr]
      split
      · exact TaskOk.jumped _ _ _
      · exact hd.tasks i
  · exact h

end OwnStep

end Sys2Proof.Machine
end

section
/-!
What an instruction may do to the chip: the relation `Kept`, and that the operand forms and the meanings
of the instructions stay inside it.
-/
namespace Sys2Proof.Machine

/-- An instruction led from `s` to `t` and changed of the COGs its own alone. -/
structure Kept (jumps : Bool) (s t : State) : Prop where
  mem    : Memory.wf s.mem = true → Memory.wf t.mem = true
  turn   : t.turn = s.turn
  own    : OwnStep jumps s.cog t.cog
  others : ∀ n, n ≠ s.turn → t.cogs.rd n = s.cogs.rd n

namespace Kept

variable {j : Bool} {s t : State} {c : Cog}

theorem setCog (h : OwnStep j s.cog c) : Kept j s (s.setCog c) :=
  ⟨id, rfl, by rw [State.setCog_cog]; exact h, fun _ hn => State.setCog_other _ _ hn⟩

/-- What else of the chip changes does not matter, as long as memory stays canonical. -/
theorem congr {u : State} (h : Kept j s t) (hm : Memory.wf t.mem = true → Memory.wf u.mem = true)
    (ht : u.turn = t.turn) (hc : u.cogs = t.cogs) : Kept j s u := by
  have own : u.cog = t.cog := by rw [State.cog, State.cog, ht, hc]
  exact ⟨hm ∘ h.mem, ht.trans h.turn, own ▸ h.own, hc ▸ h.others⟩

theorem skipSlot (j : Bool) (s : State) : Kept j s (Machine.skipSlot s) :=
  setCog (OwnStep.refl j s.cog).advance

theorem stall (j : Bool) (s : State) : Kept j s (Machine.stall s) := setCog (.of_pipeline rfl)

theorem stallWith (j : Bool) (h : Held) (s : State) : Kept j s (Machine.stallWith h s) :=
  setCog (.of_pipeline rfl)

theorem of_next {u : State} (h : Kept j s u) (e : (.next u : Result) = .next t) : Kept j s t := by
  cases e; exact h

/-- An effect on the COG, after a change of other state of the chip. -/
theorem thenOnCog {u : State} {f : Cog → Cog} (h : Kept j s u) (e : Machine.onCog f u = .next t)
    (hf : OwnStep j u.cog (f u.cog)) : Kept j s t := by
  cases e
  exact ⟨h.mem, h.turn, by rw [State.setCog_cog]; exact h.own.trans hf,
    fun n hn => (State.setCog_other _ _ (h.turn ▸ hn)).trans (h.others n hn)⟩

theorem onCog {f : Cog → Cog} (e : Machine.onCog f (s.setCog c) = .next t)
    (hf : OwnStep j s.cog (f c)) : Kept j s t := by
  rw [Machine.onCog, State.setCog_cog, State.setCog_setCog] at e
  exact (setCog hf).of_next e

/-! ### The operand forms -/

theorem runPlain {cond : Cond} {k : State → Result} (e : Machine.runPlain cond s k = .next t)
    (hk : ∀ c, OwnStep j s.cog c → k (s.setCog c) = .next t → Kept j s t) : Kept j s t := by
  unfold Machine.runPlain at e
  split at e
  · exact hk _ (OwnStep.refl j s.cog).advance e
  · exact (skipSlot j s).of_next e

theorem runD {reads : Bool} {cond : Cond} {d : Reg} {k : RegAddr → Word → State → Result}
    (e : Machine.runD reads cond d s k = .next t)
    (hk : ∀ a v c, OwnStep j s.cog c → k a v (s.setCog c) = .next t → Kept j s t) :
    Kept j s t := by
  unfold Machine.runD at e
  split at e
  · split at e
    · cases e
    · exact hk _ _ _ (OwnStep.enter _ _ (OwnStep.refl j s.cog)) e
  · exact (skipSlot j s).of_next e

theorem runDS {reads : Bool} {cond : Cond} {d : Reg} {x : Src}
    {k : RegAddr → Word → Word → State → Result} (e : Machine.runDS reads cond d x s k = .next t)
    (hk : ∀ a v w c, OwnStep j s.cog c → k a v w (s.setCog c) = .next t → Kept j s t) :
    Kept j s t := by
  unfold Machine.runDS at e
  split at e
  · split at e
    · cases e
    · exact hk _ _ _ _ (OwnStep.enter _ _ (OwnStep.refl j s.cog)) e
  · exact (skipSlot j s).of_next e

theorem runDn {w : Nat} {cond : Cond} {d : DImm} {k : Word → State → Result}
    (e : Machine.runDn w cond d s k = .next t)
    (hk : ∀ v c, OwnStep j s.cog c → k v (s.setCog c) = .next t → Kept j s t) : Kept j s t := by
  unfold Machine.runDn at e
  split at e
  · split at e
    · cases e
    · exact hk _ _ (OwnStep.enter _ _ (OwnStep.refl j s.cog)) e
  · exact (skipSlot j s).of_next e

theorem runHub {n : Nat} {reads : Bool} {cond : Cond} {d : Reg} {x : HubOperand}
    {k : HubAddress → RegAddr → Word → State → Result}
    (e : Machine.runHub n reads cond d x s k = .next t)
    (hk : ∀ ea a v c, OwnStep j s.cog c → k ea a v (s.setCog c) = .next t → Kept j s t) :
    Kept j s t := by
  unfold Machine.runHub at e
  split at e
  · split at e
    · cases e
    · exact hk _ _ _ _ ((OwnStep.enter _ _ (OwnStep.refl j s.cog)).hubAfter _ _) e
  · exact (skipSlot j s).of_next e

theorem runQuad {cond : Cond} {x : HubOperand} {k : HubAddress → State → Result}
    (e : Machine.runQuad cond x s k = .next t)
    (hk : ∀ ea c, OwnStep j s.cog c → k ea (s.setCog c) = .next t → Kept j s t) : Kept j s t := by
  unfold Machine.runQuad at e
  split at e
  · split at e
    · cases e
    · exact hk _ _ ((OwnStep.enter _ _ (OwnStep.refl j s.cog)).hubAfter _ _) e
  · exact (skipSlot j s).of_next e

/-! ### The operand forms with an effect on the COG alone -/

theorem plainOnCog {cond : Cond} {f : Cog → Cog}
    (e : Machine.runPlain cond s (Machine.onCog f) = .next t)
    (hf : ∀ c, OwnStep j s.cog c → OwnStep j s.cog (f c)) : Kept j s t :=
  runPlain e fun c hc e => onCog e (hf c hc)

theorem dOnCog {reads : Bool} {cond : Cond} {d : Reg} {f : RegAddr → Word → Cog → Cog}
    (e : Machine.runD reads cond d s (fun a v => Machine.onCog (f a v)) = .next t)
    (hf : ∀ a v c, OwnStep j s.cog c → OwnStep j s.cog (f a v c)) : Kept j s t :=
  runD e fun a v c hc e => onCog e (hf a v c hc)

theorem dsOnCog {reads : Bool} {cond : Cond} {d : Reg} {x : Src}
    {f : RegAddr → Word → Word → Cog → Cog}
    (e : Machine.runDS reads cond d x s (fun a v w => Machine.onCog (f a v w)) = .next t)
    (hf : ∀ a v w c, OwnStep j s.cog c → OwnStep j s.cog (f a v w c)) : Kept j s t :=
  runDS e fun a v w c hc e => onCog e (hf a v w c hc)

theorem dnOnCog {w : Nat} {cond : Cond} {d : DImm} {f : Word → Cog → Cog}
    (e : Machine.runDn w cond d s (fun v => Machine.onCog (f v)) = .next t)
    (hf : ∀ v c, OwnStep j s.cog c → OwnStep j s.cog (f v c)) : Kept j s t :=
  runDn e fun v c hc e => onCog e (hf v c hc)

/-- A D/#n instruction that sets other state than the pipeline. -/
theorem dnSets {w : Nat} {cond : Cond} {d : DImm} {f : Word → Cog → Cog}
    (e : Machine.runDn w cond d s (fun v => Machine.onCog (f v)) = .next t)
    (hf : ∀ v c, (f v c).pipeline = c.pipeline) : Kept j s t :=
  dnOnCog e fun v c hc => hc.keep (hf v c)

theorem devWrite {w : Nat} {f : Word → Cog → Cog} {o : DnOps}
    (e : Machine.devWrite w f o s = .next t) (hf : ∀ v c, (f v c).pipeline = c.pipeline) :
    Kept j s t := dnSets e hf

theorem setOut {f : Cog → BitVec 7 → Bool} {o : DnOps} (e : Machine.setOut f o s = .next t) :
    Kept j s t := dnSets e fun _ _ => rfl

theorem setPor {x : BitVec 2} {o : DnOps} (e : Machine.setPor x o s = .next t) : Kept j s t :=
  dnSets e fun _ _ => rfl

theorem plainSets {cond : Cond} {f : Cog → Cog}
    (e : Machine.runPlain cond s (Machine.onCog f) = .next t)
    (hf : ∀ c, (f c).pipeline = c.pipeline) : Kept j s t :=
  plainOnCog e fun c hc => hc.keep (hf c)

theorem dsSets {reads : Bool} {cond : Cond} {d : Reg} {x : Src}
    {f : RegAddr → Word → Word → Cog → Cog}
    (e : Machine.runDS reads cond d x s (fun a v w => Machine.onCog (f a v w)) = .next t)
    (hf : ∀ a v w c, (f a v w c).pipeline = c.pipeline) : Kept j s t :=
  dsOnCog e fun a v w c hc => hc.keep (hf a v w c)

/-- SETINDx and FIXINDx. -/
theorem setsIndirect {f : Cog → Cog} (e : Machine.onCog f (Machine.skipSlot s) = .next t)
    (hf : ∀ c, (f c).pipeline = c.pipeline) : Kept j s t :=
  onCog e ((OwnStep.refl j s.cog).advance.keep (hf _))

/-! ### The shared meanings -/

theorem alu {reads : Bool} {f : Word → Word → Bool → Bool → AluOut} {o : AluOps}
    (e : Machine.alu reads f o s = .next t) : Kept j s t :=
  dsOnCog e fun _ _ _ _ hc => hc.putOut _ _ _ _ _

theorem aluZ {reads : Bool} {f : Word → Word → Word} {o : AluZOps}
    (e : Machine.aluZ reads f o s = .next t) : Kept j s t :=
  dsOnCog e fun _ _ _ _ hc => hc.deliver _ _ _ _

theorem mulWith {f : Word → Word → Word} {o : MulOps} (e : Machine.mulWith f o s = .next t) :
    Kept j s t :=
  dsOnCog e fun _ _ _ _ hc => hc.deliver _ _ _ _

theorem getValue {o : DZROps} {v : State → Word} (e : Machine.getValue o s v = .next t) :
    Kept j s t :=
  runD e fun _ _ _ hc e => onCog e (hc.deliver _ _ _ _)

theorem changeD {f : Word → Word} {o : DZROps} (e : Machine.changeD f o s = .next t) :
    Kept j s t :=
  dOnCog e fun _ _ _ hc => hc.deliver _ _ _ _

theorem bitOp {f : Word → BitVec 5 → Bool → Bool → Word} {o : DBitOps}
    (e : Machine.bitOp f o s = .next t) : Kept j s t :=
  dOnCog e fun _ _ _ hc => hc.deliver _ _ _ _

theorem getPtr {o : DZCROps} {p : Cog → HubAddress} (e : Machine.getPtr o p s = .next t) :
    Kept j s t :=
  dOnCog e fun _ _ _ hc => (hc.deliver _ _ _ _).writeC _ _

theorem jmpRetWith {delayed z r : Bool} {cond : Cond} {d : Reg} {x : Src}
    (e : Machine.jmpRetWith delayed z r cond d x s = .next t) : Kept j s t :=
  dsOnCog e fun _ _ _ _ hc => (hc.deliver _ _ _ _).branchIf _ _ _

theorem countJump {by_ : Word} {onZero delayed : Bool} {o : DSROps}
    (e : Machine.countJump by_ onZero delayed o s = .next t) : Kept j s t :=
  dsOnCog e fun _ _ _ _ hc => (hc.writeD _ _ _).branchIf _ _ _

theorem testJump {onZero delayed : Bool} {o : DSOps}
    (e : Machine.testJump onZero delayed o s = .next t) : Kept j s t :=
  dsOnCog e fun _ _ _ _ hc => hc.branchIf _ _ _

theorem pinJump {on : Bool} {o : DSOps} (e : Machine.pinJump on o s = .next t) : Kept j s t :=
  runDS e fun _ _ _ _ hc e => onCog e (hc.branchIf _ _ _)

theorem waitPins {equal : Bool} {o : DSOps} (e : Machine.waitPins equal o s = .next t) :
    Kept j s t :=
  runDS e fun _ _ _ _ hc e => by
    dsimp only at e
    split at e
    · exact (setCog hc).of_next e
    · exact (stallWith j _ s).of_next e

theorem execWaitcnt {o : WaitCOps} (e : Machine.execWaitcnt o s = .next t) : Kept j s t :=
  runDS e fun _ _ _ _ hc e => by
    dsimp only at e
    split at e
    · exact onCog e (hc.writeD _ _ _)
    · exact (stallWith j _ s).of_next e

theorem execWaitvid {o : DSOps} (e : Machine.execWaitvid o s = .next t) : Kept j s t :=
  runDS e fun _ _ _ _ hc e => by
    dsimp only at e
    split at e
    · exact onCog e (hc.keep rfl)
    · exact (stallWith j _ s).of_next e

theorem execCfgpins {o : DSOps} (e : Machine.execCfgpins o s = .next t) : Kept j s t :=
  runDS e fun _ _ _ _ hc e => by
    cases e
    exact (setCog hc).congr id rfl rfl

theorem execGetcnt {o : DZROps} (e : Machine.execGetcnt o s = .next t) : Kept j s t :=
  runD e fun _ _ _ hc e => by
    split at e
    · exact onCog e (hc.deliver _ _ _ _)
    · exact onCog e ((hc.keep (by rfl)).deliver _ _ _ _)

theorem execGetacca {o : DZROps} (e : Machine.execGetacca o s = .next t) : Kept j s t :=
  dOnCog e fun _ _ _ hc => by
    split
    · exact hc.deliver _ _ _ _
    · exact (hc.keep (by rfl)).deliver _ _ _ _

theorem execGetaccb {o : DZROps} (e : Machine.execGetaccb o s = .next t) : Kept j s t :=
  dOnCog e fun _ _ _ hc => by
    split
    · exact hc.deliver _ _ _ _
    · exact (hc.keep (by rfl)).deliver _ _ _ _

theorem execGetphza {o : DZROps} (e : Machine.execGetphza o s = .next t) : Kept j s t :=
  runD e fun _ _ _ hc e => onCog e ((hc.keep (by rfl)).deliver _ _ _ _)

theorem execGetphzb {o : DZROps} (e : Machine.execGetphzb o s = .next t) : Kept j s t :=
  runD e fun _ _ _ hc e => onCog e ((hc.keep (by rfl)).deliver _ _ _ _)

theorem execSndser {o : DCOps} (e : Machine.execSndser o s = .next t) : Kept j s t :=
  runD e fun _ _ _ hc e => by
    dsimp only at e
    split at e
    · exact onCog e ((hc.keep (by rfl)).writeC _ _)
    split at e
    · exact onCog e (hc.writeC _ _)
    · exact (stallWith j _ s).of_next e

theorem execRcvser {o : DZCOps} (e : Machine.execRcvser o s = .next t) : Kept j s t :=
  runD e fun _ _ _ hc e => by
    split at e
    · exact onCog e ((hc.deliver _ _ _ _).writeC _ _)
    split at e
    · exact onCog e (hc.writeC _ _)
    · exact (stall j s).of_next e

theorem setTaken (hc : OwnStep j s.cog c) (k : BitVec 3) (b : Bool) :
    Kept j s (Machine.setTaken k b (s.setCog c)) := (setCog hc).congr id rfl rfl

theorem setLock (hc : OwnStep j s.cog c) (k : BitVec 3) (b : Bool) :
    Kept j s (Machine.setLock k b (s.setCog c)) := (setCog hc).congr id rfl rfl

theorem execLocknew {o : DZCOps} (e : Machine.execLocknew o s = .next t) : Kept j s t :=
  runD e fun _ _ _ hc e => by
    split at e
    · exact (setTaken hc _ _).thenOnCog e (((OwnStep.refl _ _).deliver _ _ _ _).writeC _ _)
    · exact onCog e (((hc.writeReg _ _).writeZ _ _).writeC _ _)

theorem execLockret {o : D0Ops} (e : Machine.execLockret o s = .next t) : Kept j s t :=
  runD e fun _ _ _ hc e => (setTaken hc _ _).of_next e

theorem lockTo {b : Bool} {o : DCOps} (e : Machine.lockTo b o s = .next t) : Kept j s t :=
  runD e fun _ _ _ hc e =>
    (setLock hc _ _).thenOnCog e ((OwnStep.refl _ _).writeC _ _)

theorem execCogid {o : D0Ops} (e : Machine.execCogid o s = .next t) : Kept j s t :=
  runD e fun _ _ _ hc e => onCog e (hc.writeReg _ _)

theorem execGettops {o : DZOps} (e : Machine.execGettops o s = .next t) : Kept j s t :=
  dOnCog e fun _ _ _ hc => hc.deliver _ _ _ _

theorem execPushzc {o : DZCROps} (e : Machine.execPushzc o s = .next t) : Kept j s t :=
  dOnCog e fun _ _ _ hc => ((hc.writeD _ _ _).writeZ _ _).writeC _ _

theorem execPopzc {o : DZCROps} (e : Machine.execPopzc o s = .next t) : Kept j s t :=
  dOnCog e fun _ _ _ hc => ((hc.writeD _ _ _).writeZ _ _).writeC _ _

theorem execSetzc {o : DnZCOps} (e : Machine.execSetzc o s = .next t) : Kept j s t :=
  dnOnCog e fun _ _ hc => (hc.writeZ _ _).writeC _ _

theorem execGetp {o : DnZCOps} (e : Machine.execGetp o s = .next t) : Kept j s t :=
  runDn e fun _ _ hc e => onCog e ((hc.writeZ _ _).writeC _ _)

theorem execGetpn {o : DnZCOps} (e : Machine.execGetpn o s = .next t) : Kept j s t :=
  runDn e fun _ _ hc e => onCog e ((hc.writeZ _ _).writeC _ _)

theorem execPasscnt {o : D0Ops} (e : Machine.execPasscnt o s = .next t) : Kept j s t :=
  runD e fun _ _ _ hc e => onCog e (hc.branchIf _ _ _)

theorem repeatWith {ahead : RegAddr} {o : RepeatOps} (e : Machine.repeatWith ahead o s = .next t) :
    Kept j s t :=
  runDn e fun _ _ hc e => onCog e (hc.keep rfl)

theorem execSynctra {o : IgnOps} (e : Machine.execSynctra o s = .next t) : Kept j s t :=
  runPlain e fun _ hc e => by
    split at e
    · exact (setCog hc).of_next e
    · exact (stall j s).of_next e

theorem execSynctrb {o : IgnOps} (e : Machine.execSynctrb o s = .next t) : Kept j s t :=
  runPlain e fun _ hc e => by
    split at e
    · exact (setCog hc).of_next e
    · exact (stall j s).of_next e

theorem execCapctra {o : IgnOps} (e : Machine.execCapctra o s = .next t) : Kept j s t :=
  runPlain e fun _ hc e => onCog e (hc.keep rfl)

theorem execCapctrb {o : IgnOps} (e : Machine.execCapctrb o s = .next t) : Kept j s t :=
  runPlain e fun _ hc e => onCog e (hc.keep rfl)

theorem execPolctra {o : PollOps} (e : Machine.execPolctra o s = .next t) : Kept j s t :=
  runPlain e fun _ hc e => onCog e (hc.writeC _ _)

theorem execPolctrb {o : PollOps} (e : Machine.execPolctrb o s = .next t) : Kept j s t :=
  runPlain e fun _ hc e => onCog e (hc.writeC _ _)

theorem execPolvid {o : PollOps} (e : Machine.execPolvid o s = .next t) : Kept j s t :=
  runPlain e fun _ hc e => onCog e (hc.writeC _ _)

theorem execSetquad {o : DnOps} (e : Machine.execSetquad o s = .next t) : Kept j s t :=
  runDn e fun _ _ hc e => by
    split at e
    · cases e
    · next hb => exact onCog e (hc.mapQuads (Bool.eq_false_iff.2 hb))

theorem execSetquaz {o : DnOps} (e : Machine.execSetquaz o s = .next t) : Kept j s t :=
  runDn e fun _ _ hc e => by
    split at e
    · cases e
    · next hb => exact onCog e (OwnStep.keep (hc.mapQuads (Bool.eq_false_iff.2 hb)) rfl)

theorem changeSp {x : Ind} {f : BitVec 8 → BitVec 8 → BitVec 8} {o : DnOps}
    (e : Machine.changeSp x f o s = .next t) : Kept j s t :=
  dnSets e fun _ c => pipeline_setSp c x _

theorem getSp {x : Ind} {o : DZCOps} (e : Machine.getSp x o s = .next t) : Kept j s t :=
  dOnCog e fun _ _ _ hc => ((hc.writeReg _ _).writeZ _ _).writeC _ _

theorem execGetspd {o : DZCOps} (e : Machine.execGetspd o s = .next t) : Kept j s t :=
  dOnCog e fun _ _ _ hc => ((hc.writeReg _ _).writeZ _ _).writeC _ _

/-- CHKSPD, CHKSPA and CHKSPB. -/
theorem checks {o : NoDOps} {zv cv : Cog → Bool}
    (e : Machine.runPlain o.cond s
      (Machine.onCog fun c => Machine.writeC o.c (cv c) (Machine.writeZ o.z (zv c) c)) = .next t) :
    Kept j s t :=
  plainOnCog e fun _ hc => (hc.writeZ _ _).writeC _ _

theorem popFrom {x : Ind} {at_ after : BitVec 8 → BitVec 8} {o : DZCOps}
    (e : Machine.popFrom x at_ after o s = .next t) : Kept j s t :=
  dOnCog e fun _ _ c hc =>
    (((hc.keep (pipeline_setSp c x _)).writeReg _ _).writeZ _ _).writeC _ _

theorem callWith {x : Ind} {delayed : Bool} {o : DnOps}
    (e : Machine.callWith x delayed o s = .next t) : Kept j s t :=
  dnOnCog e fun _ c hc => (hc.keep (pipeline_pushUp x _ c)).branchIf _ _ _

theorem returnWith {x : Ind} {delayed : Bool} {o : NoDOps}
    (e : Machine.returnWith x delayed o s = .next t) : Kept j s t :=
  plainOnCog e fun c hc =>
    (((hc.keep (pipeline_setSp c x _)).writeZ _ _).writeC _ _).branchIf _ _ _

theorem execSettask {o : DnOps} (e : Machine.execSettask o s = .next t) : Kept j s t :=
  dnOnCog e fun _ _ hc => hc.addTaskWrite _

theorem execJmptask {o : DnMaskOps} (e : Machine.execJmptask o s = .next t) : Kept true s t :=
  dnOnCog e fun _ _ hc =>
    (((hc.jumpIfMasked _ _ _).jumpIfMasked _ _ _).jumpIfMasked _ _ _).jumpIfMasked _ _ _

theorem mathUnitRead {o : DCOps} (e : Machine.mathUnitRead o s = .next t) : Kept j s t :=
  runD e fun _ _ _ _ e => nomatch e

/-! ### HUB memory -/

theorem hubStore {c : Cog} {ea : HubAddress} {m : List Host.Cell} (hc : OwnStep j s.cog c)
    (hm : Memory.wf s.mem = true → Memory.wf m = true)
    (e : Machine.hubStore ea m (s.setCog c) = .next t) : Kept j s t := by
  unfold Machine.hubStore at e
  split at e
  · cases e
  · cases e
    exact (setCog hc).congr hm rfl rfl

theorem execWrbyte {o : HubWrOps} (e : Machine.execWrbyte o s = .next t) : Kept j s t :=
  runHub e fun _ _ _ _ hc e => hubStore hc (fun h => wf_memWrite1 h _ _) e

theorem execWrword {o : HubWrOps} (e : Machine.execWrword o s = .next t) : Kept j s t :=
  runHub e fun _ _ _ _ hc e => hubStore hc (fun h => wf_memWrite2 h _ _) e

theorem execWrlong {o : HubWrOps} (e : Machine.execWrlong o s = .next t) : Kept j s t :=
  runHub e fun _ _ _ _ hc e => hubStore hc (fun h => wf_memWrite4 h _ _) e

theorem execWrquad {o : QuadOps} (e : Machine.execWrquad o s = .next t) : Kept j s t :=
  runQuad e fun _ _ hc e => hubStore hc (fun h => wf_memWriteQuad h _ _) e

/-- RDBYTE, RDWORD and RDLONG. -/
theorem loads {n : Nat} {o : HubRdOps} {v : HubAddress → State → Word}
    (e : Machine.runHub n false o.cond o.d o.addr s (fun ea da _ s1 =>
      Machine.onCog (Machine.deliver o.z true da (v ea s1)) s1) = .next t) : Kept j s t :=
  runHub e fun _ _ _ _ hc e => onCog e (hc.deliver _ _ _ _)

/-- RDBYTEC, RDWORDC and RDLONGC. -/
theorem cachedLoads {n : Nat} {o : HubRdOps} {v : HubAddress → State → Cog → Word}
    (e : Machine.runHub n false o.cond o.d o.addr s (fun ea da _ s1 =>
      Machine.onCog (fun c => Machine.deliver o.z true da (v ea s1 c)
        (Machine.cacheLoad s1.mem ea c)) s1) = .next t) : Kept j s t :=
  runHub e fun _ _ _ _ hc e => onCog e ((hc.cacheLoad _ _).deliver _ _ _ _)

theorem execRdquad {o : QuadOps} (e : Machine.execRdquad o s = .next t) : Kept j s t :=
  runQuad e fun _ _ hc e => onCog e (hc.cacheFill _ _)

theorem execRdquadc {o : QuadOps} (e : Machine.execRdquadc o s = .next t) : Kept j s t :=
  runQuad e fun _ _ hc e => onCog e (hc.cacheLoad _ _)

end Kept
end Sys2Proof.Machine
end

section
/-!
What `exec` can answer, said once for the whole instruction set: `exec_executed`.
-/
namespace Sys2Proof.Machine

/-! ### What `exec` can answer -/

/-- COG `n` is made idle (COGSTOP). -/
def stopCog (n : CogId) (s : State) : State :=
  { s with cogs := s.cogs.wr n { s.cogs.rd n with run := .idle } }

/-- All that an instruction which answers the next state `t` can have done (R241, R247, R363, R761). -/
inductive Executed (s t : State) : Instr → Prop where
  | kept {i : Instr} (h : Kept false s t) : Executed s t i
  | jumps {o : DnMaskOps} (h : Kept true s t) : Executed s t (.jmptask o)
  | starts {o : CogIniOps} (u : State) (n : CogId) (a p : HubAddress) (h : Kept false s u)
      (aligned : alignTo 2 a = a) (ht : t = startCog n a p u) : Executed s t (.coginit o)
  | stops {o : D0Ops} (u : State) (n : CogId) (h : Kept false s u) (ht : t = stopCog n u) :
      Executed s t (.cogstop o)
  | resets {o : D0Ops} (u : State) (ht : t = chipReset u) : Executed s t (.clkset o)

theorem alignTo_alignTo (k : Nat) (a : HubAddress) : alignTo k (alignTo k a) = alignTo k a := by
  apply BitVec.eq_of_toNat_eq
  rw [alignTo_toNat, alignTo_toNat, Nat.mul_div_cancel _ (Nat.two_pow_pos k)]

theorem executed_coginit {o : CogIniOps} {s t : State} (e : execCoginit o s = .next t) :
    Executed s t (.coginit o) := by
  have starts : ∀ {da : RegAddr} {n : CogId} {a p : HubAddress} {c : Cog}, OwnStep false s.cog c →
      (.next (cogInitOk o da n (alignTo 2 a) p (s.setCog c)) : Result) = .next t →
      Executed s t (.coginit o) := by
    intro da n a p c hc e
    rw [cogInitOk, State.setCog_cog, State.setCog_setCog] at e
    cases e
    exact .starts _ n _ p (Kept.setCog ((hc.deliver _ _ _ _).writeC _ _)) (alignTo_alignTo 2 a) rfl
  unfold execCoginit runDS at e
  split at e
  · split at e
    · cases e
    · have hc := OwnStep.enter o.d (srcReg (.reg o.s)) (OwnStep.refl false s.cog)
      dsimp only at e
      split at e
      · split at e
        · exact starts hc e
        · rw [cogInitFail, State.setCog_cog, State.setCog_setCog] at e
          exact .kept ((Kept.setCog (((hc.writeD _ _ _).writeZ _ _).writeC _ _)).of_next e)
      · exact starts hc e
  · exact .kept ((Kept.skipSlot _ s).of_next e)

theorem executed_cogstop {o : D0Ops} {s t : State} (e : execCogstop o s = .next t) :
    Executed s t (.cogstop o) := by
  unfold execCogstop runD at e
  split at e
  · split at e
    · cases e
    · cases e
      exact .stops _ _ (Kept.setCog (OwnStep.enter _ _ (OwnStep.refl false s.cog))) rfl
  · exact .kept ((Kept.skipSlot _ s).of_next e)

theorem executed_clkset {o : D0Ops} {s t : State} (e : execClkset o s = .next t) :
    Executed s t (.clkset o) := by
  unfold execClkset runD at e
  split at e
  · split at e
    · cases e
    · have hc := OwnStep.enter o.d noReg (OwnStep.refl false s.cog)
      dsimp only at e
      split at e
      · cases e
        exact .resets _ rfl
      split at e
      · cases e
      · cases e
        exact .kept ((Kept.setCog hc).congr id rfl rfl)
  · exact .kept ((Kept.skipSlot _ s).of_next e)

theorem exec_executed {i : Instr} {s t : State} (h : exec i s = .next t) : Executed s t i := by
  unfold exec at h
  cases i with
  | ror o | rol o | shr o | shl o | rcr o | rcl o | sar o | rev o | mins o | maxs o | min o
  | max o | and o | andn o | or o | xor o | muxc o | muxnc o | muxz o | muxnz o | add o | sub o
  | addabs o | subabs o | sumc o | sumnc o | sumz o | sumnz o | mov o | neg o | abs o | absneg o
  | negc o | negnc o | negz o | negnz o | cmps o | cmpsx o | addx o | subx o | adds o | subs o
  | addsx o | subsx o | subr o | cmpsub o => exact .kept (.alu h)
  | enc o | movs o | movd o | movi o | incmod o | decmod o => exact .kept (.aluZ h)
  | mul o | scl o => exact .kept (.mulWith h)
  | subcnt o | getlfsr o | getpix o | getphsa o | getcosa o | getsina o | getphsb o | getcosb o
  | getsinb o => exact .kept (.getValue h)
  | decod5 o | decod4 o | decod3 o | decod2 o | blmask o | not o | onecnt o | zercnt o | incpat o
  | decpat o | bingry o | grybin o | mergew o | splitw o | seussf o | seussr o =>
    exact .kept (.changeD h)
  | isob o | notb o | clrb o | setb o | setbc o | setbnc o | setbz o | setbnz o =>
    exact .kept (.bitOp h)
  | getptra o | getptrb o => exact .kept (.getPtr h)
  | jmpret o | jmpretd o | jmp o | jmpd o | call o | ret o | calld o | retd o =>
    exact .kept (.jmpRetWith h)
  | ijz o | ijzd o | ijnz o | ijnzd o | djz o | djzd o | djnz o | djnzd o =>
    exact .kept (.countJump h)
  | tjz o | tjzd o | tjnz o | tjnzd o => exact .kept (.testJump h)
  | jp o | jnp o => exact .kept (.pinJump h)
  | waitpeq o | waitpne o => exact .kept (.waitPins h)
  | lockset o | lockclr o => exact .kept (.lockTo h)
  | reps o | repd o => exact .kept (.repeatWith h)
  | setspa o | setspb o | addspa o | addspb o | subspa o | subspb o => exact .kept (.changeSp h)
  | getspa o | getspb o => exact .kept (.getSp h)
  | popar o | popbr o | popa o | popb o => exact .kept (.popFrom h)
  | calla o | callb o | callad o | callbd o => exact .kept (.callWith h)
  | reta o | retb o | retad o | retbd o => exact .kept (.returnWith h)
  | setpix o | setpixu o | setpixv o | setpixz o | setpixa o | setpixr o | setpixg o | setpixb o
  | cfgdac0 o | cfgdac1 o | cfgdac2 o | cfgdac3 o | setdac0 o | setdac1 o | setdac2 o | setdac3 o
  | cfgdacs o | setdacs o | setxch o | setser o | setvid o | setvidy o | setvidi o | setvidq o
  | setctra o | setwava o | setfrqa o | setphsa o | addphsa o | subphsa o | setctrb o | setwavb o
  | setfrqb o | setphsb o | addphsb o | subphsb o => exact .kept (.devWrite h fun _ _ => rfl)
  | notp o | clrp o | setp o | setpc o | setpnc o | setpz o | setpnz o => exact .kept (.setOut h)
  | setpora o | setporb o | setporc o | setpord o => exact .kept (.setPor h)
  | nopx o | setptra o | setptrb o | addptra o | addptrb o | subptra o | subptrb o | offp o
  | setport o | setskip o | setcog o => exact .kept (.dnSets h fun _ _ => rfl)
  | pusha o | pushb o => exact .kept (.dnSets h fun _ _ => pipeline_pushUp _ _ _)
  | pushar o | pushbr o => exact .kept (.dnSets h fun _ _ => pipeline_pushDown _ _ _)
  | cachex o | clracca o | clraccb o | clraccs o | fitacca o | fitaccb o | fitaccs o =>
    exact .kept (.plainSets h fun _ => rfl)
  | setacca o | setaccb o | maca o | macb o => exact .kept (.dsSets h fun _ _ _ _ => rfl)
  | setindaAddr o | setindaDelta o | setindbAddr o | setindbDelta o | setindsAddrAddr o
  | setindsAddrDelta o | setindsDeltaAddr o | setindsDeltaDelta o | fixinda o | fixindb o
  | fixinds o => exact .kept (.setsIndirect h fun _ => rfl)
  | chkspd o | chkspa o | chkspb o => exact .kept (.checks h)
  | rdbyte o | rdword o | rdlong o => exact .kept (.loads h)
  | rdbytec o | rdwordc o | rdlongc o => exact .kept (.cachedLoads h)
  | polctra o => exact .kept (.execPolctra h)
  | polctrb o => exact .kept (.execPolctrb h)
  | polvid o => exact .kept (.execPolvid h)
  | wrbyte o => exact .kept (.execWrbyte h)
  | wrword o => exact .kept (.execWrword h)
  | wrlong o => exact .kept (.execWrlong h)
  | wrquad o => exact .kept (.execWrquad h)
  | rdquad o => exact .kept (.execRdquad h)
  | rdquadc o => exact .kept (.execRdquadc h)
  | locknew o => exact .kept (.execLocknew h)
  | lockret o => exact .kept (.execLockret h)
  | cogid o => exact .kept (.execCogid h)
  | gettops o => exact .kept (.execGettops h)
  | getspd o => exact .kept (.execGetspd h)
  | getcnt o => exact .kept (.execGetcnt h)
  | getacca o => exact .kept (.execGetacca h)
  | getaccb o => exact .kept (.execGetaccb h)
  | getphza o => exact .kept (.execGetphza h)
  | getphzb o => exact .kept (.execGetphzb h)
  | pushzc o => exact .kept (.execPushzc h)
  | popzc o => exact .kept (.execPopzc h)
  | setzc o => exact .kept (.execSetzc h)
  | getp o => exact .kept (.execGetp h)
  | getpn o => exact .kept (.execGetpn h)
  | passcnt o => exact .kept (.execPasscnt h)
  | sndser o => exact .kept (.execSndser h)
  | rcvser o => exact .kept (.execRcvser h)
  | waitcnt o => exact .kept (.execWaitcnt h)
  | waitvid o => exact .kept (.execWaitvid h)
  | cfgpins o => exact .kept (.execCfgpins h)
  | synctra o => exact .kept (.execSynctra h)
  | synctrb o => exact .kept (.execSynctrb h)
  | capctra o => exact .kept (.execCapctra h)
  | capctrb o => exact .kept (.execCapctrb h)
  | setquad o => exact .kept (.execSetquad h)
  | setquaz o => exact .kept (.execSetquaz h)
  | settask o => exact .kept (.execSettask h)
  | jmptask o => exact .jumps (.execJmptask h)
  | coginit o => exact executed_coginit h
  | cogstop o => exact executed_cogstop h
  | clkset o => exact executed_clkset h
  | setmap o | setxfr o => exact .kept (.runDn h fun _ _ _ e => nomatch e)
  | getmull o | getmulh o | getdivq o | getdivr o | getsqrt o | getqx o | getqy o | getqz o =>
    exact .kept (.mathUnitRead h)
  | setindaOld o | setindbOld o => exact .kept (.runDS h fun _ _ _ _ _ e => nomatch e)
  | nop => exact .kept ((Kept.skipSlot _ s).of_next h)

end Sys2Proof.Machine
end

section
/-!
The invariant: what instructions, cycles and the passing of time keep. From it that every step keeps the
invariant, that ROM never changes, and that tasks keep their own flags.
-/
namespace Sys2Proof.Machine

/-! ### The invariant without its clause about the turn -/

/-- What a step keeps of the invariant at every point of it: canonical memory, and every COG that is not
idle in order. The turn is set anew when time passes. -/
structure Sound (s : State) : Prop where
  mem  : Memory.wf s.mem = true
  cogs : ∀ n, isIdle (s.cogs.rd n) = false → CogOk (s.cogs.rd n)

theorem Inv.sound {s : State} (h : Inv s) : Sound s := ⟨h.mem, h.cogs⟩

theorem isIdle_eq_false {c : Cog} : isIdle c = false ↔ c.run ≠ .idle := by simp [isIdle]

theorem isIdle_congr {c d : Cog} (h : d.run = c.run) : isIdle d = isIdle c := by
  rw [isIdle, isIdle, h]

theorem Sound.cog {s : State} (h : Sound s) (hr : s.cog.run ≠ .idle) : CogOk s.cog :=
  h.cogs s.turn (isIdle_eq_false.2 hr)

/-- One COG replaced by one that is in order, or idle. -/
theorem Sound.wr {s : State} (h : Sound s) {n : CogId} {c : Cog} (hc : isIdle c = false → CogOk c) :
    Sound { s with cogs := s.cogs.wr n c } := by
  refine ⟨h.mem, fun k => ?_⟩
  rw [Bank.rd_wr]
  split
  · exact hc
  · exact h.cogs k

theorem Sound.setCog {s : State} (h : Sound s) {c : Cog} (hc : CogOk c) : Sound (s.setCog c) :=
  h.wr fun _ => hc

/-! ### What instructions keep -/

theorem Kept.sound {j : Bool} {s t : State} (h : Kept j s t) (hs : Sound s) : Sound t := by
  refine ⟨h.mem hs.mem, fun n hn => ?_⟩
  by_cases e : n = s.turn
  · subst e
    have own : t.cogs.rd s.turn = t.cog := by rw [State.cog, h.turn]
    rw [own] at hn ⊢
    exact h.own.ok (hs.cogs s.turn (isIdle_congr h.own.run ▸ hn))
  · rw [h.others n e] at hn ⊢
    exact hs.cogs n hn

theorem startTasks_rd (k : TaskId) : startTasks.rd k = ⟨false, false, k.setWidth 9, 0, []⟩ := by
  revert k; decide

theorem mem_allLoads (r : RegAddr) : r ∈ allLoads ↔ r.toNat < 0x1F8 := by
  simp only [allLoads, loadSize, List.mem_map, List.mem_range]
  constructor
  · rintro ⟨i, hi, rfl⟩
    rw [BitVec.toNat_ofNat, Nat.mod_eq_of_lt (by omega)]
    exact hi
  · exact fun h => ⟨r.toNat, h, by simp⟩

theorem nodup_allLoads : allLoads.Nodup := by
  refine List.Nodup.map_on (fun a ha b hb e => ?_) List.nodup_range
  have h := congrArg BitVec.toNat e
  simp only [loadSize, List.mem_range] at ha hb
  rwa [BitVec.toNat_ofNat, BitVec.toNat_ofNat, Nat.mod_eq_of_lt (by omega),
    Nat.mod_eq_of_lt (by omega)] at h

theorem CogOk.startedCog (tick : Nat) (old : Cog) {a : HubAddress} (p : HubAddress)
    (ha : alignTo 2 a = a) : CogOk (startedCog tick old a p) where
  tasks k := by
    show TaskOk (startTasks.rd k)
    rw [startTasks_rd]
    exact ⟨Nat.zero_le _, fun _ h => nomatch h⟩
  taskWrites := fun _ h => nomatch h
  qbase := (by decide : badQuadBase hiddenBase = false)
  fillAge := le_rfl
  mapAge := le_rfl
  loading := by
    intro left b h
    obtain ⟨rfl, rfl⟩ := RunState.loading.inj h
    refine ⟨List.ne_nil_of_mem ((mem_allLoads 0#9).2 (by decide)), fun k hk => ?_, nodup_allLoads, ha⟩
    exact (mem_allLoads k).1 hk

theorem sound_chipReset (s : State) : Sound (chipReset s) := by
  refine ⟨wf_memoryOf _, fun n hn => ?_⟩
  simp [chipReset, Bank.rd, isIdle] at hn

theorem Executed.sound {i : Instr} {s t : State} (h : Executed s t i) (hs : Sound s) : Sound t := by
  cases h with
  | kept h => exact h.sound hs
  | jumps h => exact h.sound hs
  | starts u n a p h aligned ht =>
    subst ht
    exact (h.sound hs).wr fun _ => CogOk.startedCog _ _ _ aligned
  | stops u n h ht =>
    subst ht
    exact (h.sound hs).wr fun hi => nomatch hi
  | resets u ht => subst ht; exact sound_chipReset u

/-! ### What a cycle keeps -/

theorem TaskOk.fireDelayed {t : TaskRegs} (h : TaskOk t) : TaskOk (fireDelayed t) :=
  ⟨h.flush, fun e he => h.delayed e (List.mem_of_mem_filter he)⟩

theorem TaskOk.countDown {t : TaskRegs} (h : TaskOk t) : TaskOk (countDown t) := by
  refine ⟨(Nat.sub_le _ _).trans h.flush, fun e he => ?_⟩
  obtain ⟨d, hd, rfl⟩ := List.mem_map.1 he
  exact (Nat.sub_le _ _).trans (h.delayed d hd)

theorem older_le (n : Nat) : older n ≤ longAgo := by
  unfold older
  split <;> omega

theorem CogOk.beginSlot {c : Cog} (h : CogOk c) : CogOk (beginSlot c) where
  tasks k := by
    rw [beginSlot_tasks, countAll_rd, Bank.rd_wr]
    split
    · exact (h.tasks _).fireDelayed.countDown
    · exact (h.tasks k).countDown
  taskWrites e he := by
    obtain ⟨d, hd, rfl⟩ := List.mem_map.1 he
    exact (Nat.sub_le _ _).trans (h.taskWrites d (List.mem_of_mem_filter hd))
  qbase := h.qbase
  fillAge := older_le _
  mapAge := older_le _
  loading := h.loading

theorem pipeline_useSkipBit (c : Cog) : (useSkipBit c).pipeline = c.pipeline := by
  unfold useSkipBit
  split <;> rfl

/-- The state in which the instruction of a slot that is not cancelled runs. -/
def slotState (s : State) : State := (enterSlot s).setCog (useSkipBit (enterSlot s).cog)

theorem runWord_next {w : Word} {s t : State} (h : runWord w s = .next t) :
    t = skipSlot s ∨ ∃ i, exec i s = .next t := by
  unfold runWord at h
  split at h
  · exact .inr ⟨_, h⟩
  split at h
  · cases h
  split at h <;> cases h
  exact .inl rfl

/-- A cycle is a cancelled slot, a skipped one, or an instruction. -/
theorem cycle_next {s t : State} (h : cycle s = .next t) :
    t = cancelSlot (enterSlot s) ∨ t = skipSlot (slotState s) ∨
      ∃ i, exec i (slotState s) = .next t := by
  unfold cycle runSlot at h
  split at h
  · cases h
    exact .inl rfl
  split at h
  · cases h
  split at h
  · cases h
    exact .inr (.inl rfl)
  split at h
  · cases h
  split at h
  · cases h
  · exact .inr (runWord_next h)

theorem cycle_sound {s t : State} (hr : s.cog.run ≠ .idle) (hs : Sound s) (h : cycle s = .next t) :
    Sound t := by
  have entered : Sound (enterSlot s) := hs.setCog (hs.cog hr).beginSlot
  have begun : CogOk (enterSlot s).cog := by
    rw [enterSlot, State.setCog_cog]
    exact (hs.cog hr).beginSlot
  have slot : Sound (slotState s) := entered.setCog (begun.of_pipeline (pipeline_useSkipBit _))
  rcases cycle_next h with rfl | rfl | ⟨i, hi⟩
  · exact entered.setCog (begun.of_pipeline (by rfl))
  · exact (Kept.skipSlot false _).sound slot
  · exact (exec_executed hi).sound slot

/-! ### What passing time keeps -/

theorem mem_activeCogs {s : State} {n : CogId} :
    n ∈ activeCogs s ↔ isIdle (s.cogs.rd n) = false := by
  simp only [activeCogs, List.mem_filter, List.mem_map, List.mem_range, Bool.not_eq_true',
    and_iff_right_iff_imp]
  exact fun _ => ⟨n.toNat, n.isLt, by simp⟩

theorem isIdle_of_mem_dueCogs {s : State} {n : CogId} (h : n ∈ dueCogs s) :
    isIdle (s.cogs.rd n) = false := by
  have due := (List.mem_filter.1 h).2
  unfold clocksAwaited at due
  split at due
  · next hr => rw [isIdle_eq_false, hr]; exact nofun
  · cases due

/-- If a COG can step, the next turn belongs to one that can (R90). -/
theorem isIdle_nextTurn {s : State} (h : ∃ n, isIdle (s.cogs.rd n) = false) :
    isIdle (s.cogs.rd (nextTurn s)) = false := by
  obtain ⟨n, hn⟩ := h
  have active := mem_activeCogs.2 hn
  unfold nextTurn
  split
  · next e => exact isIdle_of_mem_dueCogs (e ▸ List.mem_cons_self)
  split
  · next e => rw [e] at active; cases active
  · next e => exact mem_activeCogs.1 (e ▸ List.mem_singleton_self _)
  · have inside := Nat.mod_lt (Config.cogPick s.tick) (List.length_pos_of_mem active)
    rw [List.getD_eq_getElem _ _ inside]
    exact mem_activeCogs.1 (List.getElem_mem inside)

theorem Sound.passTime {s : State} (h : Sound s) (clocks : BitVec 64) : Inv (passTime clocks s) :=
  ⟨h.mem, h.cogs, fun hn => isIdle_nextTurn (s := advanceCnt clocks s) hn⟩

theorem Sound.finish {s : State} (h : Sound s) : Inv (finish s) := h.passTime _

/-! ### The kinds of steps -/

theorem nextLoad_mem (tick : Nat) {left : List RegAddr} (h : left ≠ []) :
    nextLoad tick left ∈ left := by
  have inside := Nat.mod_lt (Config.loadPick tick) (List.length_pos_iff.2 h)
  rw [nextLoad, List.getD_eq_getElem _ _ inside]
  exact List.getElem_mem inside

theorem CogOk.loadLong {c : Cog} {left : List RegAddr} {a : HubAddress} (h : CogOk c)
    (hr : c.run = .loading left a) (m : List Host.Cell) (k : RegAddr) :
    CogOk (loadLong m k left a c) where
  tasks := h.tasks
  taskWrites := h.taskWrites
  qbase := h.qbase
  fillAge := h.fillAge
  mapAge := h.mapAge
  loading rest b e := by
    obtain ⟨-, small, nodup, aligned⟩ := h.loading left a hr
    unfold Machine.loadLong at e
    dsimp only at e
    split at e
    · cases e
    · next ne =>
      cases e
      exact ⟨ne, fun r hr => small r (List.mem_of_mem_erase hr), nodup.erase k, aligned⟩

/-- The kinds of steps, each with what it does before time passes (R52, R95, R452, R560, R595). -/
inductive Stepped (s : State) : State → Prop where
  | rests (hr : s.cog.run = .idle ∨ s.cog.run = .stuck) : Stepped s (finish s)
  | loads {left : List RegAddr} {a : HubAddress} (hr : s.cog.run = .loading left a) :
      Stepped s (finish (s.setCog (loadLong s.mem (nextLoad s.tick left) left a s.cog)))
  | spendsNop (hr : s.cog.run = .running) (hn : s.cog.nops ≠ 0#32) : Stepped s (finish (nopStep s))
  | waits {u : State} (hr : s.cog.run = .running) (h : cycle s = .next u) (hs : u.cog.stalled = true) :
      Stepped s (waitTick u.cog.held s)
  | executes {u : State} (hr : s.cog.run = .running) (h : cycle s = .next u) : Stepped s (finish u)

theorem step_stepped {s t : State} (h : step s = .next t) : Stepped s t := by
  unfold step cogStep at h
  split at h
  · next hr => cases h; exact .rests (.inl hr)
  · next hr => cases h; exact .rests (.inr hr)
  · next hr => cases h; exact .loads hr
  next hr =>
  split at h
  · next hn => cases h; exact .spendsNop hr hn
  split at h
  · next u hu =>
    split at h
    · next hw => cases h; exact .waits hr hu hw
    · cases h; exact .executes hr hu
  · cases h
  · cases h

theorem Stepped.inv {s t : State} (h : Stepped s t) (hs : Inv s) : Inv t := by
  have sound := hs.sound
  have running : s.cog.run = .running → s.cog.run ≠ .idle := fun hr => by rw [hr]; exact nofun
  cases h with
  | rests => exact sound.finish
  | loads hr =>
    have ok := sound.cog (by rw [hr]; exact nofun)
    exact (sound.setCog (ok.loadLong hr _ _)).finish
  | spendsNop hr => exact (sound.setCog ((sound.cog (running hr)).of_pipeline (by rfl))).finish
  | waits hr => exact (sound.setCog ((sound.cog (running hr)).of_pipeline (by rfl))).passTime _
  | executes hr h => exact (cycle_sound (running hr) sound h).finish

/-- Settles O51: a case analysis over the kinds of steps and, for an instruction, over what `exec` can
answer. -/
theorem stepKeepsTheInvariant : Obligations.StepKeepsTheInvariant := by
  intro s t hs h
  exact (step_stepped h).inv hs

/-! ### ROM -/

/-- Canonical memory lists no ROM byte, so a read of ROM gives what an unlisted address reads as. -/
theorem readByte_rom {m : List Host.Cell} (h : Memory.wf m = true) {a : HubAddress}
    (ha : a.toNat < ramStart) : readByte m a = unlistedByte a.toNat := by
  have none_at : cellLookup m a.toNat = none := by
    induction m with
    | nil => rfl
    | cons x m ih =>
      obtain ⟨ok, -, wf⟩ := (wf_cons x m).1 h
      obtain ⟨low, -, -⟩ := ok
      rw [cellLookup, if_neg (Nat.ne_of_lt (Nat.lt_of_lt_of_le ha low))]
      exact ih wf
  rw [readByte, none_at]
  rfl

/-- The 32 bytes of E1. -/
theorem unlistedByte_listed : ∀ a < 0x20, (unlistedByte a).toNat =
    [0x50, 0x72, 0x6F, 0x70, 0x32, 0x2E, 0x30, 0x20, 0x00, 0x20, 0x7C, 0x0C, 0x03, 0xCC, 0x7C, 0x0C,
      0x45, 0xFE, 0xC1, 0x0D, 0xE3, 0xB6, 0xFC, 0x0C, 0x01, 0xC6, 0x7C, 0x0C, 0x01, 0xC6, 0x7C,
      0x0D].getD a 0 := by
  intro a ha
  rw [unlistedByte, if_pos ha]
  revert a
  decide

/-- Settles O56: memory stays canonical (O51), and canonical memory lists no ROM byte. -/
theorem romNeverChanges : Obligations.RomNeverChanges := by
  intro s t hs h a ha
  have before := readByte_rom hs.mem ha
  have after := readByte_rom (stepKeepsTheInvariant s t hs h).mem ha
  exact ⟨after.trans before.symm, fun low => after ▸ unlistedByte_listed a.toNat low⟩

/-! ### Tasks -/

theorem Kept.othersTasks {s t : State} (h : Kept false s t) :
    t.cog.cur = s.cog.cur ∧ ∀ k, k ≠ s.cog.cur → t.cog.tasks.rd k = s.cog.tasks.rd k :=
  ⟨h.own.cur, h.own.others rfl⟩

/-- Making a COG idle touches no task. -/
theorem stopCog_own (n : CogId) (s : State) :
    (stopCog n s).cog.cur = s.cog.cur ∧ (stopCog n s).cog.tasks = s.cog.tasks := by
  simp only [stopCog, State.cog, Bank.rd_wr]
  split
  · next e => rw [e]; exact ⟨rfl, rfl⟩
  · exact ⟨rfl, rfl⟩

/-- Settles O55, by cases on what `exec` can answer. -/
theorem tasksKeepTheirOwnFlags : Obligations.TasksKeepTheirOwnFlags := by
  intro i s t h
  have did := exec_executed h
  clear h
  cases did with
  | kept h =>
    split
    · trivial
    · trivial
    · exact ⟨h.own.cur, h.own.flags⟩
    · exact h.othersTasks
  | jumps h => exact ⟨h.own.cur, h.own.flags⟩
  | starts => trivial
  | stops u n h ht =>
    obtain ⟨cur, tasks⟩ := stopCog_own n u
    rw [ht, cur, tasks]
    exact h.othersTasks
  | resets => trivial

end Sys2Proof.Machine
end

section
/-!
The state after reset: each COG is `resetCog`, but for the run state and the load address of COG 0.
-/
namespace Sys2Proof.Machine

theorem rd_replicate {n : Nat} {α : Type} (x : α) (i : BitVec n) :
    Bank.rd (Vector.replicate (2 ^ n) x) i = x := by simp [Bank.rd]

theorem reset_cogs_rd (n : CogId) : State.reset.cogs.rd n =
    if n = 0#3 then { resetCog with run := .running, ptrb := 0x00E80#17 } else resetCog := by
  rw [State.reset, Bank.rd_wr, rd_replicate]

theorem reset_idle_of_ne {n : CogId} (h : n ≠ 0#3) : isIdle (State.reset.cogs.rd n) = true := by
  rw [reset_cogs_rd, if_neg h]
  rfl

/-- Settles O52: COG 0 is the one COG that runs, and it stands at the start values. -/
theorem resetMeetsTheInvariant : Obligations.ResetMeetsTheInvariant := by
  have first : State.reset.cog = { resetCog with run := .running, ptrb := 0x00E80#17 } :=
    reset_cogs_rd 0#3
  refine ⟨wf_nil, fun n hn => ?_, fun _ => by rw [first]; rfl⟩
  have h0 : n = 0#3 := by
    by_contra ne
    rw [reset_idle_of_ne ne] at hn
    cases hn
  subst h0
  rw [reset_cogs_rd, if_pos rfl]
  exact
    { tasks := fun k => by
        show TaskOk (startTasks.rd k)
        rw [startTasks_rd]
        exact ⟨Nat.zero_le _, fun _ h => nomatch h⟩
      taskWrites := fun _ h => nomatch h
      qbase := (by decide : badQuadBase hiddenBase = false)
      fillAge := le_rfl
      mapAge := le_rfl
      loading := fun _ _ h => nomatch h }

/-- Settles O53: both kinds of COG share the fields in question with `resetCog`. -/
theorem resetLeavesTheSpecsValues : Obligations.ResetLeavesTheSpecsValues := by
  refine ⟨rfl, rfl, fun n => ?_⟩
  have tasks : ∀ t : TaskId, startTasks.rd t = ⟨false, false, BitVec.ofNat 9 t.toNat, 0, []⟩ :=
    fun t => (startTasks_rd t).trans (by rw [← BitVec.ofNat_toNat])
  have ports : ∀ k : BitVec 2, (startPorts.rd k).toNat = k.toNat := by decide
  have quads : ∀ k : BitVec 2, resetCog.quads.rd k = 0#32 := rd_replicate _
  rw [reset_cogs_rd]
  split
  · exact ⟨tasks, rfl, quads, le_rfl, rfl, rfl, rfl, rfl, rfl, rfl, rfl, rfl, ports⟩
  · exact ⟨tasks, rfl, quads, le_rfl, rfl, rfl, rfl, rfl, rfl, rfl, rfl, rfl, ports⟩

end Sys2Proof.Machine
end

section
/-!
Steps and the program counter: the repeat unit, the steps that run no instruction, and what a step does
with the long it fetches.
-/
namespace Sys2Proof.Machine

/-! ### The repeat unit -/

theorem succ_eq_ofNat (pc : RegAddr) : pc + 1#9 = BitVec.ofNat 9 (pc.toNat + 1) := by
  apply BitVec.eq_of_toNat_eq
  simp

theorem lastOfBlock_eq_ofNat (start : RegAddr) (len : BitVec 5) :
    start + len.setWidth 9 - 1#9 = BitVec.ofNat 9 (start.toNat + len.toNat + 511) := by
  have := len.isLt
  apply BitVec.eq_of_toNat_eq
  simp only [BitVec.toNat_sub, BitVec.toNat_add, BitVec.toNat_setWidth, BitVec.toNat_ofNat]
  omega

/-- Settles O43: the two branches of `nextPc`. -/
theorem repeatBlockRuns : Obligations.RepeatBlockRuns := by
  intro c
  have count : c.rep.count ≠ 0#32 ↔ c.rep.count.toNat ≠ 0 := by
    rw [ne_eq, ← BitVec.toNat_inj]
    rfl
  dsimp only
  rw [← lastOfBlock_eq_ofNat, ← succ_eq_ofNat]
  refine ⟨fun hc ht hl => ?_, fun h => ?_⟩
  · have one : c.rep.count = 1#32 ↔ c.rep.count.toNat = 1 := by
      rw [← BitVec.toNat_inj]
      rfl
    have less : (c.rep.count - 1#32).toNat = c.rep.count.toNat - 1 :=
      BitVec.toNat_sub_of_le (by rw [BitVec.le_def]; exact Nat.pos_of_ne_zero hc)
    have hn : nextPc c = (if c.rep.count = 1#32 then c.pcNow + 1#9 else c.rep.start,
        { c.rep with count := c.rep.count - 1#32 }) := if_pos ⟨count.2 hc, ht, hl⟩
    rw [hn]
    exact ⟨if_congr one rfl rfl, less, rfl, rfl, rfl⟩
  · refine if_neg fun ⟨hc, ht, hl⟩ => ?_
    rcases h with h | h | h
    · exact count.1 hc h
    · exact h ht
    · exact h hl

/-! ### Steps without an instruction -/

theorem step_rests {s : State} (h : s.cog.run = .idle ∨ s.cog.run = .stuck) :
    step s = .next (finish s) := by
  unfold step cogStep
  rcases h with h | h <;> rw [h]

theorem step_loading {s : State} {left : List RegAddr} {a : HubAddress}
    (h : s.cog.run = .loading left a) : step s =
      .next (finish (s.setCog (loadLong s.mem (nextLoad s.tick left) left a s.cog))) := by
  unfold step cogStep
  rw [h]

theorem step_nop {s : State} (h : s.cog.run = .running) (hn : s.cog.nops ≠ 0#32) :
    step s = .next (finish (nopStep s)) := by
  unfold step cogStep
  rw [h]
  exact if_pos hn

theorem setCog_cogs_turn (s : State) (c : Cog) : (s.setCog c).cogs.rd s.turn = c := by
  rw [State.setCog_cogs, Bank.rd_wr_self]

/-- The long that a load reads for register `k`, byte by byte (R84, R95). -/
theorem memRead4_block (m : List Host.Cell) {a : HubAddress} (ha : alignTo 2 a = a) (k : RegAddr) :
    memRead4 m (a + (k.setWidth 17 <<< 2)) =
      readByte m (BitVec.ofNat 17 (a.toNat + 4 * k.toNat + 3)) ++
      readByte m (BitVec.ofNat 17 (a.toNat + 4 * k.toNat + 2)) ++
      readByte m (BitVec.ofNat 17 (a.toNat + 4 * k.toNat + 1)) ++
      readByte m (BitVec.ofNat 17 (a.toNat + 4 * k.toNat)) := by
  have hk := k.isLt
  have four : a.toNat / 2 ^ 2 * 2 ^ 2 = a.toNat := by rw [← alignTo_toNat 2 a, ha]
  have offset : (k.setWidth 17 <<< 2).toNat = 4 * k.toNat := by
    rw [BitVec.toNat_shiftLeft, BitVec.toNat_setWidth, Nat.shiftLeft_eq]
    omega
  have base : alignTo 2 (a + (k.setWidth 17 <<< 2)) = BitVec.ofNat 17 (a.toNat + 4 * k.toNat) := by
    apply BitVec.eq_of_toNat_eq
    rw [alignTo_toNat, BitVec.toNat_add, offset, BitVec.toNat_ofNat]
    omega
  unfold memRead4
  simp only [base, BitVec.ofNat_add]

/-- Settles O50: one equation for each kind of step, and the frame of time passing. -/
theorem loadingIdleAndNopSteps : Obligations.LoadingIdleAndNopSteps := by
  intro s
  have sameAfter : ∀ c : Cog, (finish (s.setCog c)).mem = s.mem ∧
      (finish (s.setCog c)).locks = s.locks ∧ (finish (s.setCog c)).clk = s.clk ∧
      (finish (s.setCog c)).pinCfg = s.pinCfg ∧
      ∀ n, n ≠ s.turn → (finish (s.setCog c)).cogs.rd n = s.cogs.rd n :=
    fun c => ⟨rfl, rfl, rfl, rfl, fun n hn => State.setCog_other s c hn⟩
  have own : ∀ c : Cog, (finish (s.setCog c)).cogs.rd s.turn = c := setCog_cogs_turn s
  refine ⟨fun h => ?_, fun left a hr hne ha => ?_, fun hr hn => ?_⟩
  · exact ⟨_, step_rests h, ⟨rfl, rfl, rfl, rfl, fun _ _ => rfl⟩, rfl⟩
  · refine ⟨_, nextLoad_mem s.tick hne, _, step_loading hr, sameAfter _, ?_⟩
    rw [own]
    refine ⟨?_, fun r hk => Bank.rd_wr_ne _ _ hk, rfl, rfl⟩
    exact (Bank.rd_wr_self _ _ _).trans (memRead4_block s.mem ha _)
  · exact ⟨_, step_nop hr hn, sameAfter _, own _⟩

/-! ### Steps with an instruction -/

/-- A cycle that gives a next state ends with time passing, or is a wait. -/
theorem step_of_cycle {s t : State} (hr : s.cog.run = .running) (hn : s.cog.nops = 0#32)
    (hc : cycle s = .next t) :
    step s = .next (if t.cog.stalled then waitTick t.cog.held s else finish t) := by
  unfold step cogStep
  rw [hr]
  simp only [hn, hc, ne_eq, not_true_eq_false, if_false]

theorem step_of_cycle_next {s t : State} (hr : s.cog.run = .running) (hn : s.cog.nops = 0#32)
    (hc : cycle s = .next t) (hs : t.cog.stalled = false) : step s = .next (finish t) := by
  rw [step_of_cycle hr hn hc, hs]
  rfl

theorem step_of_cycle_refused {s : State} {r : Refusal} (hr : s.cog.run = .running)
    (hn : s.cog.nops = 0#32) (hc : cycle s = .refused r) : step s = .refused r := by
  unfold step cogStep
  rw [hr]
  simp only [hn, hc, ne_eq, not_true_eq_false, if_false]

theorem noFetch_iff (a : RegAddr) : noFetch a = true ↔ 0x1F6 ≤ a.toNat := by simp [noFetch]

theorem skipsThis_iff (c : Cog) :
    skipsThis c = true ↔ c.skipTask = c.cur ∧ c.skip.getLsbD 0 = true := by simp [skipsThis]

theorem changedTooRecently_iff (c : Cog) :
    changedTooRecently c = true ↔ c.wrote1 = some c.pcNow ∨ c.wrote2 = some c.pcNow := by
  simp [changedTooRecently]

/-- A QUAD lies over register `a` (R33, R36). -/
theorem quadIndex_isSome_iff (c : Cog) (a : RegAddr) : (quadIndex c a).isSome = true ↔
    c.qbase.toNat < 0x1F8 ∧ c.qbase.toNat ≤ a.toNat ∧ a.toNat < c.qbase.toNat + 4 := by
  unfold quadIndex quadMapped
  split
  · next h => simpa [and_assoc] using h
  · next h => simpa [and_assoc] using h

theorem quadFetchHazard_iff (c : Cog) : quadFetchHazard c = true ↔
    c.qbase.toNat < 0x1F8 ∧ c.qbase.toNat ≤ c.pcNow.toNat ∧ c.pcNow.toNat < c.qbase.toNat + 4 ∧
      (c.fillAge < 5 ∨ c.mapAge < 5) := by
  unfold quadFetchHazard
  rw [Bool.and_eq_true, quadIndex_isSome_iff, Bool.or_eq_true, decide_eq_true_iff,
    decide_eq_true_iff, and_assoc, and_assoc]

theorem condHolds_iff (cond : BitVec 4) (z c : Bool) : condHolds cond z c = true ↔
    cond.getLsbD ((if c then 2 else 0) + (if z then 1 else 0)) = true := by
  cases z <;> cases c <;> rfl

/-- A slot that does nothing is the empty effect. -/
theorem did_skipSlot (s : State) : Did {} noReg noReg s (skipSlot s) :=
  did_other (benign_id noReg noReg s.cog)

theorem runWord_ok {w : Word} {i : Instr} (h : decode w = .ok i) (s : State) :
    runWord w s = exec i s := by
  rw [runWord, h]

/-- A word that is no instruction and that has no condition, or one that holds, is refused (R150). -/
theorem runWord_refused {w : Word} {e : DecodeError} (h : decode w = .error e) {s : State}
    (hc : ∀ cond, conditionOfAnyWord w = some cond → condHolds cond s.cog.flagZ s.cog.flagC = true) :
    runWord w s = .refused (.badWord e) := by
  rw [runWord, h]
  dsimp only
  split
  · rfl
  · next cond hw => exact if_pos (hc cond hw)

/-- A word that is no instruction and whose condition fails does nothing (R151, R158). -/
theorem runWord_idle {w : Word} {e : DecodeError} (h : decode w = .error e) {s : State} {cond : BitVec 4}
    (hw : conditionOfAnyWord w = some cond) (hc : condHolds cond s.cog.flagZ s.cog.flagC ≠ true) :
    runWord w s = .next (skipSlot s) := by
  rw [runWord, h]
  dsimp only
  rw [hw]
  exact if_neg hc

theorem enterSlot_cog (s : State) : (enterSlot s).cog = beginSlot s.cog := State.setCog_cog _ _

theorem slotState_eq (s : State) : slotState s = s.setCog (useSkipBit (beginSlot s.cog)) := by
  rw [slotState, enterSlot_cog, enterSlot, State.setCog_setCog]

theorem useSkipBit_frame (c : Cog) : (useSkipBit c).flagZ = c.flagZ ∧ (useSkipBit c).flagC = c.flagC ∧
    (useSkipBit c).stalled = c.stalled := by
  unfold useSkipBit
  split <;> exact ⟨rfl, rfl, rfl⟩

/-- The tests of a slot that is not cancelled, in their order. -/
theorem cycle_slot {s : State} (hc : slotCancelled s.cog = false) :
    cycle s =
      if noFetch (beginSlot s.cog).pcNow then .refused .fetchSpecial
      else if skipsThis (beginSlot s.cog) then .next (skipSlot (slotState s))
      else if changedTooRecently (beginSlot s.cog) then .refused .modifiedTooRecently
      else if quadFetchHazard (beginSlot s.cog) then .refused .quadTooSoon
      else runWord (fetch (beginSlot s.cog)) (slotState s) := by
  rw [cycle, if_neg (by rw [hc]; exact Bool.false_ne_true), runSlot, slotState, enterSlot_cog]

/-- A slot that does nothing ends the step. -/
theorem step_of_skipSlot {s : State} (hr : s.cog.run = .running) (hn : s.cog.nops = 0#32)
    (hc : cycle s = .next (skipSlot (slotState s))) :
    ∃ t, step s = .next (finish t) ∧ Did {} noReg noReg (slotState s) t := by
  refine ⟨_, step_of_cycle_next hr hn hc ?_, did_skipSlot _⟩
  rw [skipSlot, State.setCog_cog, advance_stalled, slotState_eq, State.setCog_cog,
    (useSkipBit_frame _).2.2]
  rfl

/-- Settles O48: the tests of `cycle` and `runWord` in their order. -/
theorem stepRunsTheDecodedInstruction : Obligations.StepRunsTheDecodedInstruction := by
  intro s hr hn
  dsimp only
  rw [← noFetch_iff, ← Nat.not_le, ← noFetch_iff, ← skipsThis_iff, ← changedTooRecently_iff,
    ← quadFetchHazard_iff, ← slotState_eq]
  refine ⟨fun hc => ?_, fun hc => ?_⟩
  · refine step_of_cycle_next hr hn ?_ (by rw [State.setCog_cog]; rfl)
    rw [cycle, if_pos hc, cancelSlot, enterSlot_cog, enterSlot, State.setCog_setCog]
  have run := cycle_slot hc
  refine ⟨fun hf => ?_, fun hf => ⟨fun hk => ?_, fun hk hw => ?_, fun hk hw hq => ?_,
    fun hk hw hq => ?_⟩⟩
  · exact step_of_cycle_refused hr hn (run.trans (if_pos hf))
  · rw [if_neg hf, if_pos hk] at run
    exact step_of_skipSlot hr hn run
  · rw [if_neg hf, if_neg hk, if_pos hw] at run
    exact step_of_cycle_refused hr hn run
  · rw [if_neg hf, if_neg hk, if_neg hw, if_pos hq] at run
    exact step_of_cycle_refused hr hn run
  rw [if_neg hf, if_neg hk, if_neg hw, if_neg hq] at run
  obtain ⟨flagZ, flagC, -⟩ := useSkipBit_frame (beginSlot s.cog)
  have holds : ∀ cond, condHolds cond (slotState s).cog.flagZ (slotState s).cog.flagC = true ↔
      cond.getLsbD ((if (beginSlot s.cog).flagC then 2 else 0) +
        (if (beginSlot s.cog).flagZ then 1 else 0)) = true := fun cond => by
    rw [slotState_eq, State.setCog_cog, flagZ, flagC, condHolds_iff]
  refine ⟨fun i hi => ?_, fun e he => ?_⟩
  · rw [runWord_ok hi] at run
    cases h : exec i (slotState s) with
    | next t => exact step_of_cycle hr hn (run.trans h)
    | fault r => cases r
    | refused r => exact step_of_cycle_refused hr hn (run.trans h)
  cases hw : conditionOfAnyWord (fetch (beginSlot s.cog)) with
  | none =>
    exact step_of_cycle_refused hr hn (run.trans (runWord_refused he (by rw [hw]; exact nofun)))
  | some cond =>
    dsimp only
    by_cases h : cond.getLsbD ((if (beginSlot s.cog).flagC then 2 else 0) +
        (if (beginSlot s.cog).flagZ then 1 else 0)) = true
    · rw [if_pos h]
      refine step_of_cycle_refused hr hn (run.trans (runWord_refused he fun k hk => ?_))
      rw [hw] at hk
      cases hk
      exact (holds cond).2 h
    · rw [if_neg h]
      exact step_of_skipSlot hr hn (run.trans (runWord_idle he hw (mt (holds cond).1 h)))

end Sys2Proof.Machine
end

section
/-!
Registers and the QUADs over them: reads, writes and fetches inside and outside the window.
-/
namespace Sys2Proof.Machine

theorem extractLsb'_zero {w : Nat} (n : Nat) (v : BitVec w) :
    v.extractLsb' 0 n = BitVec.ofNat n v.toNat := by
  apply BitVec.eq_of_toNat_eq
  rw [BitVec.extractLsb'_toNat, Nat.shiftRight_zero, BitVec.toNat_ofNat]

/-- Inside the window the QUAD is the one with the distance from the base. -/
theorem quadIndex_mapped {c : Cog} {a : RegAddr} (h : c.qbase.toNat < 0x1F8 ∧
    c.qbase.toNat ≤ a.toNat ∧ a.toNat < c.qbase.toNat + 4) :
    quadIndex c a = some (BitVec.ofNat 2 (a.toNat - c.qbase.toNat)) := by
  obtain ⟨mapped, above, below⟩ := h
  have index : (a - c.qbase).extractLsb' 0 2 = BitVec.ofNat 2 (a.toNat - c.qbase.toNat) := by
    rw [extractLsb'_zero, BitVec.toNat_sub_of_le (BitVec.le_def.2 above)]
  unfold quadIndex quadMapped
  rw [if_pos (by simp [mapped, above, below]), index]

theorem quadIndex_unmapped {c : Cog} {a : RegAddr} (h : ¬ (c.qbase.toNat < 0x1F8 ∧
    c.qbase.toNat ≤ a.toNat ∧ a.toNat < c.qbase.toNat + 4)) : quadIndex c a = none := by
  rwa [← quadIndex_isSome_iff, Bool.not_eq_true, Option.isSome_eq_false_iff,
    Option.isNone_iff_eq_none] at h

theorem readReg_quad {inp : Inputs} {c : Cog} {a : RegAddr} {k : BitVec 2}
    (h : quadIndex c a = some k) : readReg inp c a = c.quads.rd k := by
  rw [readReg, h]

theorem readReg_noQuad {inp : Inputs} {c : Cog} {a : RegAddr} (h : quadIndex c a = none) :
    readReg inp c a = if isSpecial a then readSpecial inp c a else c.ram.rd a := by
  rw [readReg, h]

theorem fetch_quad {c : Cog} {k : BitVec 2} (h : quadIndex c c.pcNow = some k) :
    fetch c = c.quads.rd k := by
  rw [fetch, h]

theorem fetch_noQuad {c : Cog} (h : quadIndex c c.pcNow = none) : fetch c = c.ram.rd c.pcNow := by
  rw [fetch, h]

/-- A write outside the window leaves the QUADs. -/
theorem writeReg_quads_of_noQuad {c : Cog} {a : RegAddr} (h : quadIndex c a = none) (v : Word) :
    (writeReg c a v).quads = c.quads := by
  apply Bank.ext
  intro k
  rw [(writeReg_written c a v).quads, h]
  exact if_neg nofun

theorem isSpecial_eq_true {a : RegAddr} : isSpecial a = true ↔ 0x1F8 ≤ a.toNat := by simp [isSpecial]

theorem isSpecial_eq_false {a : RegAddr} : isSpecial a = false ↔ a.toNat < 0x1F8 := by
  rw [← Bool.not_eq_true, isSpecial_eq_true, Nat.not_le]

theorem portWindow_bit (x : BitVec 128) (p : BitVec 2) {i : Nat} (hi : i < 32) :
    (portWindow x p).getLsbD i = x.getLsbD (32 * p.toNat + i) := by
  simp [portWindow, hi]

/-- Of the special registers the last four have bit 2 set. -/
theorem special_bit2 {a : RegAddr} (h : 0x1F8 ≤ a.toNat) :
    a.getLsbD 2 = true ↔ ¬ a.toNat < 0x1FC := by
  have := a.isLt
  rw [BitVec.getLsbD, Nat.testBit_eq_decide_div_mod_eq, decide_eq_true_iff]
  omega

/-- What a read of PINx or DIRx gives, bit by bit (R24, R615). -/
theorem readSpecial_bit (inp : Inputs) (c : Cog) {a : RegAddr} (h : 0x1F8 ≤ a.toNat) {i : Nat}
    (hi : i < 32) : (readSpecial inp c a).getLsbD i =
      if a.toNat < 0x1FC then inp.pinIn.getLsbD (32 * (c.por.rd (BitVec.ofNat 2 a.toNat)).toNat + i)
      else c.dir.getLsbD (32 * (c.por.rd (BitVec.ofNat 2 a.toNat)).toNat + i) := by
  rw [readSpecial, extractLsb'_zero]
  by_cases low : a.toNat < 0x1FC
  · rw [if_neg (mt (special_bit2 h).1 (not_not.2 low)), if_pos low, portWindow_bit _ _ hi]
  · rw [if_pos ((special_bit2 h).2 low), if_neg low, portWindow_bit _ _ hi]

/-- Settles O46, by where the address lies. -/
theorem quadWindowOverlaysRegisters : Obligations.QuadWindowOverlaysRegisters := by
  intro inp c a v
  have written := writeReg_written c a v
  refine ⟨fun h => ?_, fun h low => ?_, fun h high => ?_, fun _ _ => rfl, fun _ => ⟨rfl, rfl⟩⟩
  · have index := quadIndex_mapped h
    refine ⟨readReg_quad index, ?_, fun k => ?_, fun b => ?_⟩
    · rintro rfl
      exact fetch_quad index
    · rw [written.quads, index]
      simp only [Option.some.injEq, eq_comm]
    · exact (written.ram b).trans (if_congr (and_congr_right fun _ => isSpecial_eq_false) rfl rfl)
  · have index := quadIndex_unmapped h
    refine ⟨?_, ?_, writeReg_quads_of_noQuad index v⟩
    · rw [readReg_noQuad index, isSpecial_eq_false.2 low]
      rfl
    · rintro rfl
      exact fetch_noQuad index
  · have index := quadIndex_unmapped h
    refine ⟨fun i hi => ?_, writeReg_quads_of_noQuad index v⟩
    rw [readReg_noQuad index, if_pos (isSpecial_eq_true.2 high)]
    exact readSpecial_bit inp c high hi

end Sys2Proof.Machine
end

section
/-!
Instructions that change state of the chip or of the QUADs: CACHEX, GETTOPS, SETQUAD, SETQUAZ, the locks and
COGINIT.
-/
namespace Sys2Proof.Machine

/-! ### Results -/

/-- A result with Z and C, after a change `f` of other state. -/
theorem did_result {f : Cog → Cog} {d x : Reg} {s : State} (hf : Benign f d x s.cog)
    (r z w : Bool) (a : RegAddr) (v : Word) (zv wv : Bool) :
    Did { resultEffect z w r a v zv wv with cog := f } d x s
      (s.setCog (writeC w wv (writeZ z zv (writeD r a v (f (enter d x s.cog)))))) :=
  did_main hf r z zv w wv false false a 0#9 v

/-- A change of a lock beside what an instruction does to its COG (R50). -/
theorem Did.withLock {e : Effect} {d x : Reg} {s t : State} (h : Did e d x s t) (he : e.chip = id)
    (k : BitVec 3) (l : Lock) :
    Did { e with chip := fun u => { u with locks := u.locks.wr k l } } d x s
      { t with locks := s.locks.wr k l } where
  mem := h.mem
  locks := rfl
  clk := h.clk.trans (by rw [he]; rfl)
  cnt := h.cnt
  pinCfg := h.pinCfg.trans (by rw [he]; rfl)
  inputs := h.inputs
  turn := h.turn
  tick := h.tick
  others n hn := (h.others n hn).trans (by rw [he]; rfl)
  regs := h.regs
  flow := ⟨h.flow.others, h.flow.flagZ, h.flow.flagC, h.flow.pc, h.flow.flush, h.flow.delayed, h.flow.rep⟩
  inda := h.inda
  indb := h.indb
  rest := h.rest

theorem setWidth_beq_zero (k : BitVec 3) : (k.setWidth 32 == 0#32) = decide (k = 0#3) := by
  revert k; decide

/-! ### QUADs -/

theorem toNat_append_eq_add {m n : Nat} (x : BitVec m) (y : BitVec n) :
    (x ++ y).toNat = x.toNat * 2 ^ n + y.toNat := by
  rw [BitVec.toNat_append, ← Nat.shiftLeft_add_eq_or_of_lt y.isLt, Nat.shiftLeft_eq]

/-- The top bytes as a number, QUAD0 lowest (R221). -/
theorem topBytes_eq (q : Bank 2 Word) : topBytes q =
    BitVec.ofNat 32 ((q.rd 0#2).toNat / 2 ^ 24 + (q.rd 1#2).toNat / 2 ^ 24 * 2 ^ 8 +
      (q.rd 2#2).toNat / 2 ^ 24 * 2 ^ 16 + (q.rd 3#2).toNat / 2 ^ 24 * 2 ^ 24) := by
  have top : ∀ v : Word, (v.extractLsb' 24 8).toNat = v.toNat / 2 ^ 24 := fun v => by
    have := v.isLt
    rw [BitVec.extractLsb'_toNat, Nat.shiftRight_eq_div_pow]
    omega
  have h0 := (q.rd 0#2).isLt
  have h1 := (q.rd 1#2).isLt
  have h2 := (q.rd 2#2).isLt
  have h3 := (q.rd 3#2).isLt
  apply BitVec.eq_of_toNat_eq
  simp only [topBytes, toNat_append_eq_add, top, BitVec.toNat_ofNat]
  omega

theorem badQuadBase_iff (b : RegAddr) : badQuadBase b = true ↔ 0x1F3 ≤ b.toNat ∧ b.toNat ≤ 0x1F7 := by
  simp [badQuadBase]

theorem exec_setquad_ready {o : DnOps} {s : State} (h : readyDn o.cond o.d s) :
    exec (.setquad o) s =
      if badQuadBase (BitVec.ofNat 9 (numberOf 9 s o.d).toNat) then .refused .quadBase
      else .next (s.setCog (mapQuads (BitVec.ofNat 9 (numberOf 9 s o.d).toNat)
        (enter (dimmReg o.d) noReg s.cog))) := by
  rw [exec_setquad, execSetquad, runDn_ready h, onCog, State.setCog_cog, State.setCog_setCog,
    extractLsb'_zero]

theorem exec_setquaz_ready {o : DnOps} {s : State} (h : readyDn o.cond o.d s) :
    exec (.setquaz o) s =
      if badQuadBase (BitVec.ofNat 9 (numberOf 9 s o.d).toNat) then .refused .quadBase
      else .next (s.setCog { mapQuads (BitVec.ofNat 9 (numberOf 9 s o.d).toNat)
        (enter (dimmReg o.d) noReg s.cog) with quads := Vector.replicate _ 0#32 }) := by
  rw [exec_setquaz, execSetquaz, runDn_ready h, onCog, State.setCog_cog, State.setCog_setCog,
    extractLsb'_zero]

/-- Settles O22, instruction by instruction. -/
theorem quadControlResults : Obligations.QuadControlResults := by
  refine ⟨plain_does exec_cachex fun s => ?_, fun o s hr => ?_, fun o s hr => ⟨fun hb => ?_, fun hb => ?_⟩⟩
  · constructor <;> rfl
  · refine ⟨_, ?_, did_result (benign_id o.d noReg s.cog) true o.z false _ _ _ false⟩
    rw [exec_gettops, execGettops, runD_ready hr, onCog, State.setCog_cog, State.setCog_setCog, ← topBytes_eq]
    rfl
  · have ok := mt (badQuadBase_iff _).1 hb
    refine ⟨⟨_, (exec_setquad_ready hr).trans (if_neg ok), did_other ?_⟩,
      ⟨_, (exec_setquaz_ready hr).trans (if_neg ok), did_other ?_⟩⟩
    · constructor <;> rfl
    · constructor <;> rfl
  · have bad := (badQuadBase_iff _).2 hb
    exact ⟨(exec_setquad_ready hr).trans (if_pos bad), (exec_setquaz_ready hr).trans (if_pos bad)⟩

/-! ### Locks -/

theorem lowestWhere_eq_some {p : BitVec 3 → Bool} {k : BitVec 3} (hk : p k = true)
    (below : ∀ m : BitVec 3, m.toNat < k.toNat → p m = false) : lowestWhere p = some k := by
  rw [lowestWhere, List.find?_eq_some_iff_getElem]
  refine ⟨hk, k.toNat, by simpa using k.isLt, by simp, fun j hj => ?_⟩
  rw [List.getElem_map, List.getElem_range, below _ ?_]
  · rfl
  · have := k.isLt
    rw [BitVec.toNat_ofNat]
    omega

theorem lowestWhere_eq_none {p : BitVec 3 → Bool} (h : ∀ k, p k = false) : lowestWhere p = none := by
  rw [lowestWhere, List.find?_eq_none]
  exact fun k _ => by rw [h]; exact Bool.false_ne_true

theorem onCog_setTaken (f : Cog → Cog) (k : BitVec 3) (b : Bool) (s : State) (c : Cog) :
    onCog f (setTaken k b (s.setCog c)) =
      .next { s.setCog (f c) with locks := s.locks.wr k ⟨(s.locks.rd k).state, b⟩ } := by
  have h : onCog f (setTaken k b (s.setCog c)) =
      .next { (s.setCog c).setCog (f (s.setCog c).cog) with
        locks := s.locks.wr k ⟨(s.locks.rd k).state, b⟩ } := rfl
  rw [h, State.setCog_cog, State.setCog_setCog]

theorem onCog_setLock (f : Cog → Cog) (k : BitVec 3) (b : Bool) (s : State) (c : Cog) :
    onCog f (setLock k b (s.setCog c)) =
      .next { s.setCog (f c) with locks := s.locks.wr k ⟨b, (s.locks.rd k).taken⟩ } := by
  have h : onCog f (setLock k b (s.setCog c)) =
      .next { (s.setCog c).setCog (f (s.setCog c).cog) with
        locks := s.locks.wr k ⟨b, (s.locks.rd k).taken⟩ } := rfl
  rw [h, State.setCog_cog, State.setCog_setCog]

/-- LOCKSET and LOCKCLR complete (R250, R251). -/
theorem lockTo_completes {mk : DCOps → Instr} {b : Bool} (h : ∀ o s, exec (mk o) s = lockTo b o s)
    {o : DCOps} {s : State} (hr : readyD true o.cond o.d s) :
    Completes (mk o) o.d noReg
      { c := if o.c then some (s.locks.rd (BitVec.ofNat 3 (valueOf s o.d).toNat)).state else none
        chip := fun u =>
          { u with
            locks := u.locks.wr (BitVec.ofNat 3 (valueOf s o.d).toNat)
              ⟨b, (s.locks.rd (BitVec.ofNat 3 (valueOf s o.d).toNat)).taken⟩ } } s := by
  refine ⟨_, ?_, (did_result (benign_id o.d noReg s.cog) false false o.c 0#9 0#32 false
    (s.locks.rd (BitVec.ofNat 3 (valueOf s o.d).toNat)).state).withLock rfl _ _⟩
  rw [h, lockTo, runD_ready hr, extractLsb'_zero]
  exact onCog_setLock _ _ _ _ _

/-- Settles O25, instruction by instruction. -/
theorem lockInstructionResults : Obligations.LockInstructionResults := by
  refine ⟨fun o s hr => ⟨fun k hk below => ?_, fun taken => ?_⟩, fun o s hr => ?_, fun o s hr =>
    ⟨lockTo_completes exec_lockset hr, lockTo_completes exec_lockclr hr⟩⟩
  · have free : nextFreeLock (s.setCog (enter o.d noReg s.cog)) = some k :=
      lowestWhere_eq_some (p := fun k => !(s.locks.rd k).taken) (by rw [hk]; rfl)
        fun m hm => by rw [below m hm]; rfl
    refine ⟨_, ?_, (did_result (benign_id o.d noReg s.cog) true o.z o.c _ _ _ false).withLock rfl _ _⟩
    rw [exec_locknew, execLocknew, runD_ready hr, free, ← setWidth_beq_zero]
    exact onCog_setTaken _ _ _ _ _
  · have full : nextFreeLock (s.setCog (enter o.d noReg s.cog)) = none :=
      lowestWhere_eq_none (p := fun k => !(s.locks.rd k).taken) fun k => by rw [taken]; rfl
    refine ⟨Config.freeWord s.tick, Config.freeFlag s.tick, _, ?_,
      did_result (benign_id o.d noReg s.cog) true o.z o.c _ _ _ true⟩
    rw [exec_locknew, execLocknew, runD_ready hr, full]
    dsimp only
    rw [onCog, State.setCog_cog, State.setCog_setCog]
    rfl
  · refine ⟨_, ?_, (did_other (benign_id o.d noReg s.cog)).withLock rfl _ _⟩
    rw [exec_lockret, execLockret, runD_ready hr, extractLsb'_zero]
    rfl

/-! ### COGINIT -/

theorem isIdle_setCog {s : State} {c : Cog} (h : c.run = s.cog.run) (n : CogId) :
    isIdle ((s.setCog c).cogs.rd n) = isIdle (s.cogs.rd n) := by
  rw [State.setCog_cogs, Bank.rd_wr]
  split
  · next e => rw [e]; exact isIdle_congr h
  · rfl

theorem alignTo_low17 (v : Word) :
    alignTo 2 (BitVec.ofNat 17 v.toNat) = BitVec.ofNat 17 (v.toNat / 4 * 4) := by
  apply BitVec.eq_of_toNat_eq
  rw [alignTo_toNat, BitVec.toNat_ofNat, BitVec.toNat_ofNat]
  omega

theorem cogsel_bit3 (v : BitVec 4) : v.getLsbD 3 = true ↔ 8 ≤ v.toNat := by
  revert v; decide

/-- What the executing COG gets of a COGINIT that starts COG `n`: the number, and C clear (R241). -/
def reportStart (o : CogIniOps) (n : CogId) (s : State) : State :=
  s.setCog (writeC o.c false (writeZ o.z (decide (n = 0#3))
    (writeD o.r (addrOf s o.d) (n.setWidth 32) (enter o.d o.s s.cog))))

theorem reportStart_did (o : CogIniOps) (n : CogId) (s : State) :
    Did (resultEffect o.z o.c o.r (addrOf s o.d) (n.setWidth 32) (decide (n = 0#3)) false) o.d o.s s
      (reportStart o n s) :=
  did_result (benign_id o.d o.s s.cog) o.r o.z o.c _ _ _ false

theorem cogInitOk_eq (o : CogIniOps) (n : CogId) (a p : HubAddress) (s : State) :
    cogInitOk o (addrOf s o.d) n a p (s.setCog (enter o.d o.s s.cog)) =
      startCog n a p (reportStart o n s) := by
  rw [cogInitOk, State.setCog_cog, State.setCog_setCog, deliver, setWidth_beq_zero, reportStart]

section
variable {o : CogIniOps} {s : State}

theorem nextIdleCog_enter (o : CogIniOps) (s : State) :
    nextIdleCog (s.setCog (enter o.d o.s s.cog)) = lowestWhere fun n => isIdle (s.cogs.rd n) :=
  congrArg lowestWhere (funext (isIdle_setCog (c := enter o.d o.s s.cog) rfl))

theorem cogsel_enter (o : CogIniOps) (s : State) :
    (s.setCog (enter o.d o.s s.cog)).cog.cogsel = s.cog.cogsel := by
  rw [State.setCog_cog]
  rfl

/-- COGINIT of the COG that COGSEL names (R241). -/
theorem exec_coginit_selected (h : readyDS true o.cond o.d (.reg o.s) s)
    (sel : s.cog.cogsel.getLsbD 3 = false) :
    exec (.coginit o) s = .next (startCog (BitVec.ofNat 3 s.cog.cogsel.toNat)
      (BitVec.ofNat 17 ((valueOf s o.d).toNat / 4 * 4))
      (BitVec.ofNat 17 (sourceOf s (.reg o.s)).toNat)
      (reportStart o (BitVec.ofNat 3 s.cog.cogsel.toNat) s)) := by
  rw [exec_coginit, execCoginit, runDS_ready h]
  simp only [srcReg, cogsel_enter, sel, Bool.false_eq_true, if_false, extractLsb'_zero, alignTo_low17,
    cogInitOk_eq]

/-- COGINIT of the lowest idle COG (R241). -/
theorem exec_coginit_idle (h : readyDS true o.cond o.d (.reg o.s) s)
    (sel : s.cog.cogsel.getLsbD 3 = true) {n : CogId}
    (hn : (lowestWhere fun n => isIdle (s.cogs.rd n)) = some n) :
    exec (.coginit o) s = .next (startCog n (BitVec.ofNat 17 ((valueOf s o.d).toNat / 4 * 4))
      (BitVec.ofNat 17 (sourceOf s (.reg o.s)).toNat) (reportStart o n s)) := by
  rw [exec_coginit, execCoginit, runDS_ready h]
  simp only [srcReg, cogsel_enter, sel, if_true, nextIdleCog_enter, hn, extractLsb'_zero, alignTo_low17,
    cogInitOk_eq]

/-- COGINIT where every COG is busy (R241). -/
theorem exec_coginit_busy (h : readyDS true o.cond o.d (.reg o.s) s)
    (sel : s.cog.cogsel.getLsbD 3 = true) (hn : (lowestWhere fun n => isIdle (s.cogs.rd n)) = none) :
    exec (.coginit o) s =
      .next (cogInitFail o (addrOf s o.d) (s.setCog (enter o.d o.s s.cog))) := by
  rw [exec_coginit, execCoginit, runDS_ready h]
  simp only [srcReg, cogsel_enter, sel, if_true, nextIdleCog_enter, hn]

end

theorem startCog_rd (n : CogId) (a p : HubAddress) (s : State) :
    (startCog n a p s).cogs.rd n = startedCog s.tick (s.cogs.rd n) a p := Bank.rd_wr_self _ _ _

/-- An instruction whose effect is a result leaves the devices of every COG. -/
theorem Did.devices {e : Effect} {d x : Reg} {s t : State} (h : Did e d x s t) (hc : e.cog = id)
    (hs : e.chip = id) (n : CogId) : (t.cogs.rd n).ctra = (s.cogs.rd n).ctra ∧
      (t.cogs.rd n).ctrb = (s.cogs.rd n).ctrb ∧ (t.cogs.rd n).video = (s.cogs.rd n).video := by
  by_cases hn : n = s.turn
  · have own : t.cogs.rd n = t.cog := by rw [hn, State.cog, h.turn]
    have rest : t.cog.rest = (quiet s.cog).rest := h.rest.trans (by rw [hc]; rfl)
    rw [own, hn]
    exact ⟨(congrArg Cog.ctra rest :), (congrArg Cog.ctrb rest :), (congrArg Cog.video rest :)⟩
  · rw [h.others n hn, hs]
    exact ⟨rfl, rfl, rfl⟩

/-- Settles O23: the three cases of `exec`, and what a started COG holds. -/
theorem coginitStartsOneCog : Obligations.CoginitStartsOneCog := by
  intro o s hr a p lowestIdle started does
  have doesOf : ∀ n, exec (.coginit o) s = .next (startCog n a p (reportStart o n s)) → does n := by
    intro n hn
    refine ⟨_, hn, ?_, fun _ => ⟨_, reportStart_did o n s, ?_⟩⟩
    · obtain ⟨ctra, ctrb, video⟩ := (reportStart_did o n s).devices rfl rfl n
      dsimp only [started]
      rw [startCog_rd]
      exact ⟨⟨allLoads, rfl, nodup_allLoads, mem_allLoads⟩, rfl, (congrArg Counter.running ctra :),
        (congrArg Counter.running ctrb :), (congrArg Video.inUse video :), rfl, rfl, rd_replicate _, le_rfl,
        rfl, rfl, rfl, rfl, rfl, rfl, rfl, startTasks_rd⟩
    · rw [startCog_rd]
      rfl
  have idleMode : 8 ≤ s.cog.cogsel.toNat → s.cog.cogsel.getLsbD 3 = true := (cogsel_bit3 _).2
  refine ⟨fun h => doesOf _ (exec_coginit_selected hr ?_), fun h n ⟨idle, below⟩ =>
    doesOf n (exec_coginit_idle hr (idleMode h) (lowestWhere_eq_some idle below)), fun h busy => ?_⟩
  · exact Bool.eq_false_iff.2 (mt (cogsel_bit3 _).1 (Nat.not_le.2 h))
  · refine ⟨Config.freeWord s.tick, Config.freeFlag s.tick, _,
      exec_coginit_busy hr (idleMode h) (lowestWhere_eq_none busy), ?_⟩
    rw [cogInitFail, State.setCog_cog, State.setCog_setCog]
    exact did_result (benign_id o.d o.s s.cog) o.r o.z o.c _ _ _ true

end Sys2Proof.Machine
end

section
/-!
What is refused by name: ROM stores, the instructions that are not modelled further, and reads of a QUAD that
is too fresh.
-/
namespace Sys2Proof.Machine

/-! ### ROM stores -/

/-- A store below RAM is refused (R87, D6). -/
theorem hubStore_inRom {ea : HubAddress} (m : List Host.Cell) (s : State) (h : ea.toNat < 0xE80) :
    hubStore ea m s = .refused .romWrite := by
  have rom : inRom ea = true := decide_eq_true h
  rw [hubStore, if_pos rom]
  rfl

/-! ### Reads of a fresh QUAD -/

/-- The registers that a source operand reads. -/
def srcRegs : Src → List Reg
  | .reg r => [r]
  | .imm _ => []

/-- The registers that a D/#n operand reads. -/
def dimmRegs : DImm → List Reg
  | .reg r => [r]
  | .imm _ => []

/-- The registers that a HUB address operand reads; PTRA and PTRB are none. -/
def hubRegs : HubOperand → List Reg
  | .reg r => [r]
  | .ptr _ => []

section
variable {c : Cog} {r : Reg}

theorem srcHazard_of_mem {x : Src} (hr : r ∈ srcRegs x) (h : regHazard c r = true) :
    srcHazard c x = true := by
  cases x with
  | reg y => rwa [List.mem_singleton.1 hr] at h
  | imm _ => exact nomatch hr

theorem dimmHazard_of_mem {x : DImm} (hr : r ∈ dimmRegs x) (h : regHazard c r = true) :
    dimmHazard c x = true := by
  cases x with
  | reg y => rwa [List.mem_singleton.1 hr] at h
  | imm _ => exact nomatch hr

theorem hubHazard_of_mem {x : HubOperand} (hr : r ∈ hubRegs x) (h : regHazard c r = true) :
    hubHazard c x = true := by
  cases x with
  | reg y => rwa [List.mem_singleton.1 hr] at h
  | ptr _ => exact nomatch hr

/-- The registers D and those of a second operand, whose hazard is `b`. -/
theorem hazard_of_mem_cons {d : Reg} {l : List Reg} {b : Bool} (hl : r ∈ l → b = true)
    (hr : r ∈ d :: l) (h : regHazard c r = true) : (regHazard c d || b) = true := by
  rcases List.mem_cons.1 hr with rfl | hr
  · rw [h, Bool.true_or]
  · rw [hl hr, Bool.or_true]

end

/-- The hazard rules of R775 and R777 for a register. -/
theorem regHazard_of_fresh {s : State} {x : Reg} (mapped : s.cog.qbase.toNat < 0x1F8)
    (lower : s.cog.qbase.toNat ≤ (addrOf s x).toNat)
    (upper : (addrOf s x).toNat < s.cog.qbase.toNat + 4)
    (fresh : s.cog.fillAge < 4 ∨ s.cog.mapAge < 3) : regHazard s.cog x = true := by
  have inWindow : (quadIndex s.cog (regAddr s.cog x)).isSome = true :=
    (quadIndex_isSome_iff _ _).2 ⟨mapped, lower, upper⟩
  rw [regHazard, quadHazard, inWindow, Bool.true_and, Bool.or_eq_true, decide_eq_true_iff,
    decide_eq_true_iff]
  exact fresh

/-- The frame of every operand form: refused where the instruction executes and an operand is too fresh. -/
theorem refused_tooSoon {ex hz : Bool} {x y : Result} (hex : ex = true) (hhz : hz = true) :
    (if ex then if hz then .refused .quadTooSoon else x else y) = .refused .quadTooSoon := by
  rw [if_pos hex, if_pos hhz]

/-- The instruction is refused where it executes and `hz`, the hazard of its operands, holds. -/
def RefusesHazard {α : Type} (cond : α → Cond) (ind : α → Bool) (hz : α → Cog → Bool)
    (mk : α → Instr) : Prop :=
  ∀ o s, executes s.cog (cond o) (ind o) = true → hz o s.cog = true →
    exec (mk o) s = .refused .quadTooSoon

/-- The instructions of `l` are refused where they read, by the registers `reads`, a fresh QUAD. -/
def RefusesFresh {α : Type} (cond : α → Cond) (ind : α → Bool) (reads : α → List Reg)
    (l : List (α → Instr)) : Prop :=
  ∀ mk ∈ l, ∀ (o : α) (s : State), executes s.cog (cond o) (ind o) = true → ∀ x ∈ reads o,
    s.cog.qbase.toNat < 0x1F8 → s.cog.qbase.toNat ≤ (addrOf s x).toNat →
    (addrOf s x).toNat < s.cog.qbase.toNat + 4 → s.cog.fillAge < 4 ∨ s.cog.mapAge < 3 →
    exec (mk o) s = .refused .quadTooSoon

theorem refusesFresh_of_hazard {α : Type} {cond : α → Cond} {ind : α → Bool} {reads : α → List Reg}
    {l : List (α → Instr)} (hz : α → Cog → Bool)
    (hreads : ∀ o c r, r ∈ reads o → regHazard c r = true → hz o c = true)
    (h : ∀ mk ∈ l, RefusesHazard cond ind hz mk) : RefusesFresh cond ind reads l :=
  fun mk hmk o s hex x hx mapped lower upper fresh =>
    h mk hmk o s hex (hreads o s.cog x hx (regHazard_of_fresh mapped lower upper fresh))

section
variable {α : Type} {cond : α → Cond} {ind : α → Bool} {l : List (α → Instr)} {d : α → Reg}

/-- Instructions that read D alone. -/
theorem refusesFresh_d (h : ∀ mk ∈ l, RefusesHazard cond ind (fun o c => regHazard c (d o)) mk) :
    RefusesFresh cond ind (fun o => [d o]) l :=
  refusesFresh_of_hazard _ (fun _ _ _ hr hz => List.mem_singleton.1 hr ▸ hz) h

/-- Instructions that read D and S. -/
theorem refusesFresh_ds {x : α → Src}
    (h : ∀ mk ∈ l, RefusesHazard cond ind (fun o c => regHazard c (d o) || srcHazard c (x o)) mk) :
    RefusesFresh cond ind (fun o => d o :: srcRegs (x o)) l :=
  refusesFresh_of_hazard _
    (fun _ _ _ hr hz => hazard_of_mem_cons (fun hr => srcHazard_of_mem hr hz) hr hz) h

/-- Instructions that read S and only write D. -/
theorem refusesFresh_s {x : α → Src}
    (h : ∀ mk ∈ l, RefusesHazard cond ind (fun o c => srcHazard c (x o)) mk) :
    RefusesFresh cond ind (fun o => srcRegs (x o)) l :=
  refusesFresh_of_hazard _ (fun _ _ _ hr hz => srcHazard_of_mem hr hz) h

/-- D/#n instructions. -/
theorem refusesFresh_dn {x : α → DImm}
    (h : ∀ mk ∈ l, RefusesHazard cond ind (fun o c => dimmHazard c (x o)) mk) :
    RefusesFresh cond ind (fun o => dimmRegs (x o)) l :=
  refusesFresh_of_hazard _ (fun _ _ _ hr hz => dimmHazard_of_mem hr hz) h

/-- HUB stores, which read D and the address. -/
theorem refusesFresh_store {x : α → HubOperand}
    (h : ∀ mk ∈ l, RefusesHazard cond ind (fun o c => regHazard c (d o) || hubHazard c (x o)) mk) :
    RefusesFresh cond ind (fun o => d o :: hubRegs (x o)) l :=
  refusesFresh_of_hazard _
    (fun _ _ _ hr hz => hazard_of_mem_cons (fun hr => hubHazard_of_mem hr hz) hr hz) h

/-- HUB loads and QUAD transfers, which read the address. -/
theorem refusesFresh_address {x : α → HubOperand}
    (h : ∀ mk ∈ l, RefusesHazard cond ind (fun o c => hubHazard c (x o)) mk) :
    RefusesFresh cond ind (fun o => hubRegs (x o)) l :=
  refusesFresh_of_hazard _ (fun _ _ _ hr hz => hubHazard_of_mem hr hz) h

/-- Instructions that read S, and D where `b` says so (JMPRET, R563). -/
theorem refusesFresh_dIf {x : α → Src} {b : α → Bool}
    (h : ∀ mk ∈ l, RefusesHazard cond ind
      (fun o c => (b o && regHazard c (d o)) || srcHazard c (x o)) mk) :
    RefusesFresh cond ind (fun o => if b o then d o :: srcRegs (x o) else srcRegs (x o)) l := by
  refine refusesFresh_of_hazard _ (fun o c r hr hz => ?_) h
  cases hb : b o with
  | true =>
    rw [hb, if_pos rfl] at hr
    exact hazard_of_mem_cons (fun hr => srcHazard_of_mem hr hz) hr hz
  | false =>
    rw [hb, if_neg Bool.false_ne_true] at hr
    exact srcHazard_of_mem hr hz

end

/-- CALL and CALLD: their S field holds a number, so the condition turns on D alone. -/
theorem refusesHazard_call {mk : CallOps → Instr} {delayed : Bool}
    (h : ∀ o s, exec (mk o) s = jmpRetWith delayed false true o.cond o.d (.imm o.target) s) :
    RefusesHazard CallOps.cond (fun o => o.d.isInd) (fun o c => regHazard c o.d) mk := by
  intro o s hex hz
  rw [h]
  refine refused_tooSoon (ex := executes s.cog o.cond (o.d.isInd || false))
    (hz := regHazard s.cog o.d || false) ?_ ?_
  · rwa [Bool.or_false]
  · rwa [Bool.or_false]

/-- Settles O44: the refusals of single instructions, and the hazard by operand form. -/
theorem stopsTheRulesGive : Obligations.StopsTheRulesGive := by
  refine ⟨fun o s hr h => ?_, fun o s hr h => ?_, fun o s hr h => ?_, fun o s hr h => ?_,
    fun o s hr => ⟨?_, ?_⟩, fun o s hr => ⟨?_, ?_⟩, fun o s hr => ?_, ?_⟩
  · rw [exec_wrbyte, execWrbyte, runHub_ready hr, hubStore_inRom _ _ h]
  · rw [exec_wrword, execWrword, runHub_ready hr, hubStore_inRom _ _ h]
  · rw [exec_wrlong, execWrlong, runHub_ready hr, hubStore_inRom _ _ h]
  · rw [exec_wrquad, execWrquad, runQuad_ready hr, hubStore_inRom _ _ h]
  · rw [exec_setmap, execSetmap, runDn_ready hr]
  · rw [exec_setxfr, execSetxfr, runDn_ready hr]
  · rw [exec_setindaOld, execSetindaOld, runDS_ready hr]
  · rw [exec_setindbOld, execSetindbOld, runDS_ready hr]
  · have unit : mathUnitRead o s = .refused .mathUnit := runD_ready hr _
    exact ⟨unit, unit, unit, unit, unit, unit, unit, unit⟩
  intro src num hub hazard
  refine ⟨refusesFresh_store ?_, refusesFresh_address ?_, refusesFresh_address ?_,
    refusesFresh_ds (d := CogIniOps.d) (x := fun o : CogIniOps => .reg o.s) ?_, refusesFresh_d ?_, refusesFresh_d ?_, refusesFresh_d ?_,
    refusesFresh_d ?_, refusesFresh_d ?_, refusesFresh_d ?calls, refusesFresh_dn ?_, refusesFresh_dn ?_,
    refusesFresh_dn ?_, refusesFresh_dn ?_, refusesFresh_ds ?_, refusesFresh_s ?_, refusesFresh_ds ?_,
    refusesFresh_ds ?_, refusesFresh_ds ?_, refusesFresh_s ?_, refusesFresh_s ?_, refusesFresh_ds ?_,
    refusesFresh_dIf ?_, refusesFresh_s ?_, refusesFresh_ds ?_⟩
  case calls =>
    intro mk hmk
    fin_cases hmk
    · exact refusesHazard_call exec_call
    · exact refusesHazard_call exec_calld
  all_goals
    intro mk hmk
    fin_cases hmk <;> exact fun o s hex hz => refused_tooSoon hex hz

end Sys2Proof.Machine
end

section
/-!
What an instruction may change outside its own COG: `ChipStep`, said once for the whole instruction set, and
from it that shared state has its owners.
-/
namespace Sys2Proof.Machine

/-! ### The operand forms: an idle slot, or the effect with some new state of the COG -/

section
variable {s t : State}

theorem runPlain_next {cond : Cond} {k : State → Result} (e : runPlain cond s k = .next t) :
    t = skipSlot s ∨ ∃ c, k (s.setCog c) = .next t := by
  unfold runPlain at e
  split at e
  · exact .inr ⟨_, e⟩
  · cases e; exact .inl rfl

theorem runD_next {reads : Bool} {cond : Cond} {d : Reg} {k : RegAddr → Word → State → Result}
    (e : runD reads cond d s k = .next t) :
    t = skipSlot s ∨ ∃ a v c, k a v (s.setCog c) = .next t := by
  unfold runD at e
  split at e
  · split at e
    · cases e
    · exact .inr ⟨_, _, _, e⟩
  · cases e; exact .inl rfl

theorem runDS_next {reads : Bool} {cond : Cond} {d : Reg} {x : Src}
    {k : RegAddr → Word → Word → State → Result} (e : runDS reads cond d x s k = .next t) :
    t = skipSlot s ∨ ∃ a v w c, k a v w (s.setCog c) = .next t := by
  unfold runDS at e
  split at e
  · split at e
    · cases e
    · exact .inr ⟨_, _, _, _, e⟩
  · cases e; exact .inl rfl

theorem runDn_next {w : Nat} {cond : Cond} {d : DImm} {k : Word → State → Result}
    (e : runDn w cond d s k = .next t) : t = skipSlot s ∨ ∃ v c, k v (s.setCog c) = .next t := by
  unfold runDn at e
  split at e
  · split at e
    · cases e
    · exact .inr ⟨_, _, e⟩
  · cases e; exact .inl rfl

theorem runHub_next {n : Nat} {reads : Bool} {cond : Cond} {d : Reg} {x : HubOperand}
    {k : HubAddress → RegAddr → Word → State → Result} (e : runHub n reads cond d x s k = .next t) :
    t = skipSlot s ∨ ∃ ea a v c, k ea a v (s.setCog c) = .next t := by
  unfold runHub at e
  split at e
  · split at e
    · cases e
    · exact .inr ⟨_, _, _, _, e⟩
  · cases e; exact .inl rfl

theorem runQuad_next {cond : Cond} {x : HubOperand} {k : HubAddress → State → Result}
    (e : runQuad cond x s k = .next t) : t = skipSlot s ∨ ∃ ea c, k ea (s.setCog c) = .next t := by
  unfold runQuad at e
  split at e
  · split at e
    · cases e
    · exact .inr ⟨_, _, e⟩
  · cases e; exact .inl rfl

theorem hubStore_next {ea : HubAddress} {m : List Host.Cell} (e : hubStore ea m s = .next t) :
    t = { s with mem := m } := by
  unfold hubStore at e
  split at e <;> cases e
  rfl

end

/-! ### Instructions that change their own COG alone -/

/-- From `s` to `t` nothing changed but the executing COG. -/
def OwnCogOnly (s t : State) : Prop := ∃ c, t = s.setCog c

namespace OwnCogOnly

variable {s t : State} {c : Cog}

theorem skipSlot (s : State) : OwnCogOnly s (Machine.skipSlot s) := ⟨_, rfl⟩

/-- An idle slot, or what the effect does. -/
theorem of_cases {p : Prop} (h : t = Machine.skipSlot s ∨ p) (hp : p → OwnCogOnly s t) :
    OwnCogOnly s t := by
  rcases h with rfl | h
  · exact skipSlot s
  · exact hp h

theorem of_next (e : (.next (s.setCog c) : Result) = .next t) : OwnCogOnly s t := by
  cases e; exact ⟨c, rfl⟩

theorem onCog {f : Cog → Cog} (e : Machine.onCog f (s.setCog c) = .next t) : OwnCogOnly s t := by
  rw [Machine.onCog, State.setCog_setCog] at e
  exact of_next e

theorem runPlain {cond : Cond} {k : State → Result} (e : Machine.runPlain cond s k = .next t)
    (hk : ∀ c, k (s.setCog c) = .next t → OwnCogOnly s t) : OwnCogOnly s t :=
  of_cases (runPlain_next e) fun ⟨c, e⟩ => hk c e

theorem runD {reads : Bool} {cond : Cond} {d : Reg} {k : RegAddr → Word → State → Result}
    (e : Machine.runD reads cond d s k = .next t)
    (hk : ∀ a v c, k a v (s.setCog c) = .next t → OwnCogOnly s t) : OwnCogOnly s t :=
  of_cases (runD_next e) fun ⟨a, v, c, e⟩ => hk a v c e

theorem runDS {reads : Bool} {cond : Cond} {d : Reg} {x : Src}
    {k : RegAddr → Word → Word → State → Result} (e : Machine.runDS reads cond d x s k = .next t)
    (hk : ∀ a v w c, k a v w (s.setCog c) = .next t → OwnCogOnly s t) : OwnCogOnly s t :=
  of_cases (runDS_next e) fun ⟨a, v, w, c, e⟩ => hk a v w c e

theorem runDn {w : Nat} {cond : Cond} {d : DImm} {k : Word → State → Result}
    (e : Machine.runDn w cond d s k = .next t)
    (hk : ∀ v c, k v (s.setCog c) = .next t → OwnCogOnly s t) : OwnCogOnly s t :=
  of_cases (runDn_next e) fun ⟨v, c, e⟩ => hk v c e

theorem runHub {n : Nat} {reads : Bool} {cond : Cond} {d : Reg} {x : HubOperand}
    {k : HubAddress → RegAddr → Word → State → Result}
    (e : Machine.runHub n reads cond d x s k = .next t)
    (hk : ∀ ea a v c, k ea a v (s.setCog c) = .next t → OwnCogOnly s t) : OwnCogOnly s t :=
  of_cases (runHub_next e) fun ⟨ea, a, v, c, e⟩ => hk ea a v c e

theorem runQuad {cond : Cond} {x : HubOperand} {k : HubAddress → State → Result}
    (e : Machine.runQuad cond x s k = .next t)
    (hk : ∀ ea c, k ea (s.setCog c) = .next t → OwnCogOnly s t) : OwnCogOnly s t :=
  of_cases (runQuad_next e) fun ⟨ea, c, e⟩ => hk ea c e

/-! The shared meanings. -/

theorem alu {reads : Bool} {f : Word → Word → Bool → Bool → AluOut} {o : AluOps}
    (e : Machine.alu reads f o s = .next t) : OwnCogOnly s t := runDS e fun _ _ _ _ => onCog

theorem aluZ {reads : Bool} {f : Word → Word → Word} {o : AluZOps}
    (e : Machine.aluZ reads f o s = .next t) : OwnCogOnly s t := runDS e fun _ _ _ _ => onCog

theorem mulWith {f : Word → Word → Word} {o : MulOps} (e : Machine.mulWith f o s = .next t) :
    OwnCogOnly s t := runDS e fun _ _ _ _ => onCog

theorem jmpRetWith {delayed z r : Bool} {cond : Cond} {d : Reg} {x : Src}
    (e : Machine.jmpRetWith delayed z r cond d x s = .next t) : OwnCogOnly s t :=
  runDS e fun _ _ _ _ => onCog

theorem countJump {by_ : Word} {onZero delayed : Bool} {o : DSROps}
    (e : Machine.countJump by_ onZero delayed o s = .next t) : OwnCogOnly s t :=
  runDS e fun _ _ _ _ => onCog

theorem testJump {onZero delayed : Bool} {o : DSOps}
    (e : Machine.testJump onZero delayed o s = .next t) : OwnCogOnly s t :=
  runDS e fun _ _ _ _ => onCog

theorem pinJump {on : Bool} {o : DSOps} (e : Machine.pinJump on o s = .next t) : OwnCogOnly s t :=
  runDS e fun _ _ _ _ => onCog

theorem getValue {o : DZROps} {v : State → Word} (e : Machine.getValue o s v = .next t) :
    OwnCogOnly s t := runD e fun _ _ _ => onCog

theorem changeD {f : Word → Word} {o : DZROps} (e : Machine.changeD f o s = .next t) :
    OwnCogOnly s t := runD e fun _ _ _ => onCog

theorem bitOp {f : Word → BitVec 5 → Bool → Bool → Word} {o : DBitOps}
    (e : Machine.bitOp f o s = .next t) : OwnCogOnly s t := runD e fun _ _ _ => onCog

theorem getPtr {o : DZCROps} {p : Cog → HubAddress} (e : Machine.getPtr o p s = .next t) :
    OwnCogOnly s t := runD e fun _ _ _ => onCog

theorem getSp {x : Ind} {o : DZCOps} (e : Machine.getSp x o s = .next t) : OwnCogOnly s t :=
  runD e fun _ _ _ => onCog

theorem popFrom {x : Ind} {at_ after : BitVec 8 → BitVec 8} {o : DZCOps}
    (e : Machine.popFrom x at_ after o s = .next t) : OwnCogOnly s t := runD e fun _ _ _ => onCog

theorem mathUnitRead {o : DCOps} (e : Machine.mathUnitRead o s = .next t) : OwnCogOnly s t :=
  runD e fun _ _ _ e => nomatch e

theorem devWrite {w : Nat} {f : Word → Cog → Cog} {o : DnOps}
    (e : Machine.devWrite w f o s = .next t) : OwnCogOnly s t := runDn e fun _ _ => onCog

theorem setOut {f : Cog → BitVec 7 → Bool} {o : DnOps} (e : Machine.setOut f o s = .next t) :
    OwnCogOnly s t := runDn e fun _ _ => onCog

theorem setPor {x : BitVec 2} {o : DnOps} (e : Machine.setPor x o s = .next t) : OwnCogOnly s t :=
  runDn e fun _ _ => onCog

theorem changeSp {x : Ind} {f : BitVec 8 → BitVec 8 → BitVec 8} {o : DnOps}
    (e : Machine.changeSp x f o s = .next t) : OwnCogOnly s t := runDn e fun _ _ => onCog

theorem callWith {x : Ind} {delayed : Bool} {o : DnOps}
    (e : Machine.callWith x delayed o s = .next t) : OwnCogOnly s t := runDn e fun _ _ => onCog

theorem repeatWith {ahead : RegAddr} {o : RepeatOps} (e : Machine.repeatWith ahead o s = .next t) :
    OwnCogOnly s t := runDn e fun _ _ => onCog

theorem returnWith {x : Ind} {delayed : Bool} {o : NoDOps}
    (e : Machine.returnWith x delayed o s = .next t) : OwnCogOnly s t := runPlain e fun _ => onCog

/-! The meanings that answer in more than one way. -/

theorem waitPins {equal : Bool} {o : DSOps} (e : Machine.waitPins equal o s = .next t) :
    OwnCogOnly s t :=
  runDS e fun _ _ _ _ e => by
    dsimp only at e
    split at e <;> exact of_next e

theorem execWaitcnt {o : WaitCOps} (e : Machine.execWaitcnt o s = .next t) : OwnCogOnly s t :=
  runDS e fun _ _ _ _ e => by
    dsimp only at e
    split at e
    · exact onCog e
    · exact of_next e

theorem execWaitvid {o : DSOps} (e : Machine.execWaitvid o s = .next t) : OwnCogOnly s t :=
  runDS e fun _ _ _ _ e => by
    dsimp only at e
    split at e
    · exact onCog e
    · exact of_next e

theorem execGetcnt {o : DZROps} (e : Machine.execGetcnt o s = .next t) : OwnCogOnly s t :=
  runD e fun _ _ _ e => by
    split at e <;> exact onCog e

theorem execSndser {o : DCOps} (e : Machine.execSndser o s = .next t) : OwnCogOnly s t :=
  runD e fun _ _ _ e => by
    dsimp only at e
    split at e
    · exact onCog e
    split at e
    · exact onCog e
    · exact of_next e

theorem execRcvser {o : DZCOps} (e : Machine.execRcvser o s = .next t) : OwnCogOnly s t :=
  runD e fun _ _ _ e => by
    split at e
    · exact onCog e
    split at e
    · exact onCog e
    · exact of_next e

theorem execSynctra {o : IgnOps} (e : Machine.execSynctra o s = .next t) : OwnCogOnly s t :=
  runPlain e fun _ e => by
    split at e <;> exact of_next e

theorem execSynctrb {o : IgnOps} (e : Machine.execSynctrb o s = .next t) : OwnCogOnly s t :=
  runPlain e fun _ e => by
    split at e <;> exact of_next e

theorem execSetquad {o : DnOps} (e : Machine.execSetquad o s = .next t) : OwnCogOnly s t :=
  runDn e fun _ _ e => by
    split at e
    · cases e
    · exact onCog e

theorem execSetquaz {o : DnOps} (e : Machine.execSetquaz o s = .next t) : OwnCogOnly s t :=
  runDn e fun _ _ e => by
    split at e
    · cases e
    · exact onCog e

end OwnCogOnly

/-! ### What `exec` can do to the chip -/

/-- All that an instruction which answers the next state can have changed of the chip: of shared state only
what the instruction is meant for, and of the COGs its own unless it starts or stops one (R86, R241, R245,
R247, R248 to R251, R651). -/
inductive ChipStep (s : State) : Instr → State → Prop where
  | own {i : Instr} (c : Cog) : ChipStep s i (s.setCog c)
  | wrbyte {o : HubWrOps} (c : Cog) (m : List Host.Cell) : ChipStep s (.wrbyte o) { s.setCog c with mem := m }
  | wrword {o : HubWrOps} (c : Cog) (m : List Host.Cell) : ChipStep s (.wrword o) { s.setCog c with mem := m }
  | wrlong {o : HubWrOps} (c : Cog) (m : List Host.Cell) : ChipStep s (.wrlong o) { s.setCog c with mem := m }
  | wrquad {o : QuadOps} (c : Cog) (m : List Host.Cell) : ChipStep s (.wrquad o) { s.setCog c with mem := m }
  | locknew {o : DZCOps} (c : Cog) (l : Bank 3 Lock) : ChipStep s (.locknew o) { s.setCog c with locks := l }
  | lockret {o : D0Ops} (c : Cog) (l : Bank 3 Lock) : ChipStep s (.lockret o) { s.setCog c with locks := l }
  | lockset {o : DCOps} (c : Cog) (l : Bank 3 Lock) : ChipStep s (.lockset o) { s.setCog c with locks := l }
  | lockclr {o : DCOps} (c : Cog) (l : Bank 3 Lock) : ChipStep s (.lockclr o) { s.setCog c with locks := l }
  | cfgpins {o : DSOps} (c : Cog) (p : Bank 7 (BitVec 13)) :
      ChipStep s (.cfgpins o) { s.setCog c with pinCfg := p }
  | coginit {o : CogIniOps} (b : Bank 3 Cog) : ChipStep s (.coginit o) { s with cogs := b }
  | cogstop {o : D0Ops} (b : Bank 3 Cog) : ChipStep s (.cogstop o) { s with cogs := b }
  | clkset {o : D0Ops} {t : State} (turn : t.turn = s.turn) (tick : t.tick = s.tick)
      (inputs : t.inputs = s.inputs) : ChipStep s (.clkset o) t

namespace ChipStep

variable {i : Instr} {s t : State}

theorem of_own (h : OwnCogOnly s t) : ChipStep s i t := by
  obtain ⟨c, rfl⟩ := h
  exact own c

theorem skipSlot (i : Instr) (s : State) : ChipStep s i (Machine.skipSlot s) := own _

/-- WRBYTE, WRWORD and WRLONG; `stores` is the constructor of the one that `i` is. -/
theorem hubStore {n : Nat} {cond : Cond} {d : Reg} {x : HubOperand}
    {m : State → HubAddress → Word → List Host.Cell}
    (stores : ∀ c m, ChipStep s i { s.setCog c with mem := m })
    (e : runHub n true cond d x s (fun ea _ dv s1 => Machine.hubStore ea (m s1 ea dv) s1) = .next t) :
    ChipStep s i t := by
  rcases runHub_next e with rfl | ⟨ea, a, v, c, e⟩
  · exact skipSlot i s
  · rw [hubStore_next e]
    exact stores c _

theorem execWrquad {o : QuadOps} (e : Machine.execWrquad o s = .next t) : ChipStep s (.wrquad o) t := by
  rcases runQuad_next e with rfl | ⟨ea, c, e⟩
  · exact skipSlot _ s
  · rw [hubStore_next e]
    exact .wrquad c _

theorem execLocknew {o : DZCOps} (e : Machine.execLocknew o s = .next t) : ChipStep s (.locknew o) t := by
  rcases runD_next e with rfl | ⟨a, v, c, e⟩
  · exact skipSlot _ s
  split at e
  · rw [onCog_setTaken] at e
    cases e
    exact .locknew _ _
  · exact of_own (.onCog e)

theorem execLockret {o : D0Ops} (e : Machine.execLockret o s = .next t) : ChipStep s (.lockret o) t := by
  rcases runD_next e with rfl | ⟨a, v, c, e⟩
  · exact skipSlot _ s
  · cases e
    exact .lockret c _

/-- LOCKSET and LOCKCLR; `locks` is the constructor of the one that `i` is. -/
theorem lockTo {b : Bool} {o : DCOps} (locks : ∀ c l, ChipStep s i { s.setCog c with locks := l })
    (e : Machine.lockTo b o s = .next t) : ChipStep s i t := by
  rcases runD_next e with rfl | ⟨a, v, c, e⟩
  · exact skipSlot _ s
  · dsimp only at e
    rw [onCog_setLock] at e
    cases e
    exact locks _ _

theorem execCfgpins {o : DSOps} (e : Machine.execCfgpins o s = .next t) : ChipStep s (.cfgpins o) t := by
  rcases runDS_next e with rfl | ⟨a, v, w, c, e⟩
  · exact skipSlot _ s
  · cases e
    exact .cfgpins c _

theorem execCoginit {o : CogIniOps} (e : Machine.execCoginit o s = .next t) :
    ChipStep s (.coginit o) t := by
  rcases runDS_next e with rfl | ⟨a, v, w, c, e⟩
  · exact skipSlot _ s
  dsimp only at e
  split at e
  · split at e <;> cases e
    · exact .coginit _
    · exact .coginit _
  · cases e
    exact .coginit _

theorem execCogstop {o : D0Ops} (e : Machine.execCogstop o s = .next t) : ChipStep s (.cogstop o) t := by
  rcases runD_next e with rfl | ⟨a, v, c, e⟩
  · exact skipSlot _ s
  · cases e
    exact .cogstop _

theorem execClkset {o : D0Ops} (e : Machine.execClkset o s = .next t) : ChipStep s (.clkset o) t := by
  rcases runD_next e with rfl | ⟨a, v, c, e⟩
  · exact skipSlot _ s
  dsimp only at e
  split at e
  · cases e
    exact .clkset rfl rfl rfl
  split at e <;> cases e
  exact .clkset rfl rfl rfl

end ChipStep

theorem exec_chipStep {i : Instr} {s t : State} (h : exec i s = .next t) : ChipStep s i t := by
  unfold exec at h
  cases i with
  -- the owners of shared state
  | wrbyte o => exact .hubStore .wrbyte h
  | wrword o => exact .hubStore .wrword h
  | wrlong o => exact .hubStore .wrlong h
  | wrquad o => exact .execWrquad h
  | locknew o => exact .execLocknew h
  | lockret o => exact .execLockret h
  | lockset o => exact .lockTo .lockset h
  | lockclr o => exact .lockTo .lockclr h
  | cfgpins o => exact .execCfgpins h
  | coginit o => exact .execCoginit h
  | cogstop o => exact .execCogstop h
  | clkset o => exact .execClkset h
  -- D and S
  | ror o | rol o | shr o | shl o | rcr o | rcl o | sar o | rev o | mins o | maxs o | min o
  | max o | and o | andn o | or o | xor o | muxc o | muxnc o | muxz o | muxnz o | add o | sub o
  | addabs o | subabs o | sumc o | sumnc o | sumz o | sumnz o | mov o | neg o | abs o | absneg o
  | negc o | negnc o | negz o | negnz o | cmps o | cmpsx o | addx o | subx o | adds o | subs o
  | addsx o | subsx o | subr o | cmpsub o => exact .of_own (.alu h)
  | enc o | movs o | movd o | movi o | incmod o | decmod o => exact .of_own (.aluZ h)
  | mul o | scl o => exact .of_own (.mulWith h)
  | setacca o | setaccb o | maca o | macb o => exact .of_own (.runDS h fun _ _ _ _ => .onCog)
  | jmpret o | jmpretd o | jmp o | jmpd o | call o | ret o | calld o | retd o =>
    exact .of_own (.jmpRetWith h)
  | ijz o | ijzd o | ijnz o | ijnzd o | djz o | djzd o | djnz o | djnzd o =>
    exact .of_own (.countJump h)
  | tjz o | tjzd o | tjnz o | tjnzd o => exact .of_own (.testJump h)
  | jp o | jnp o => exact .of_own (.pinJump h)
  | waitpeq o | waitpne o => exact .of_own (.waitPins h)
  | waitcnt o => exact .of_own (.execWaitcnt h)
  | waitvid o => exact .of_own (.execWaitvid h)
  | setindaOld o | setindbOld o => exact .of_own (.runDS h fun _ _ _ _ e => nomatch e)
  -- D alone
  | subcnt o | getlfsr o | getpix o | getphsa o | getcosa o | getsina o | getphsb o | getcosb o
  | getsinb o => exact .of_own (.getValue h)
  | decod5 o | decod4 o | decod3 o | decod2 o | blmask o | not o | onecnt o | zercnt o | incpat o
  | decpat o | bingry o | grybin o | mergew o | splitw o | seussf o | seussr o =>
    exact .of_own (.changeD h)
  | isob o | notb o | clrb o | setb o | setbc o | setbnc o | setbz o | setbnz o =>
    exact .of_own (.bitOp h)
  | getptra o | getptrb o => exact .of_own (.getPtr h)
  | getspa o | getspb o => exact .of_own (.getSp h)
  | popar o | popbr o | popa o | popb o => exact .of_own (.popFrom h)
  | cogid o | gettops o | getspd o | getacca o | getaccb o | getphza o | getphzb o | pushzc o
  | popzc o | passcnt o => exact .of_own (.runD h fun _ _ _ => .onCog)
  | getcnt o => exact .of_own (.execGetcnt h)
  | sndser o => exact .of_own (.execSndser h)
  | rcvser o => exact .of_own (.execRcvser h)
  | getmull o | getmulh o | getdivq o | getdivr o | getsqrt o | getqx o | getqy o | getqz o =>
    exact .of_own (.mathUnitRead h)
  -- D or a number
  | setpix o | setpixu o | setpixv o | setpixz o | setpixa o | setpixr o | setpixg o | setpixb o
  | cfgdac0 o | cfgdac1 o | cfgdac2 o | cfgdac3 o | setdac0 o | setdac1 o | setdac2 o | setdac3 o
  | cfgdacs o | setdacs o | setxch o | setser o | setvid o | setvidy o | setvidi o | setvidq o
  | setctra o | setwava o | setfrqa o | setphsa o | addphsa o | subphsa o | setctrb o | setwavb o
  | setfrqb o | setphsb o | addphsb o | subphsb o => exact .of_own (.devWrite h)
  | notp o | clrp o | setp o | setpc o | setpnc o | setpz o | setpnz o => exact .of_own (.setOut h)
  | setpora o | setporb o | setporc o | setpord o => exact .of_own (.setPor h)
  | setspa o | setspb o | addspa o | addspb o | subspa o | subspb o => exact .of_own (.changeSp h)
  | calla o | callb o | callad o | callbd o => exact .of_own (.callWith h)
  | reps o | repd o => exact .of_own (.repeatWith h)
  | nopx o | setptra o | setptrb o | addptra o | addptrb o | subptra o | subptrb o | offp o
  | setport o | setskip o | setcog o | pusha o | pushb o | pushar o | pushbr o | setzc o | getp o
  | getpn o | settask o | jmptask o => exact .of_own (.runDn h fun _ _ => .onCog)
  | setquad o => exact .of_own (.execSetquad h)
  | setquaz o => exact .of_own (.execSetquaz h)
  | setmap o | setxfr o => exact .of_own (.runDn h fun _ _ e => nomatch e)
  -- a HUB address
  | rdbyte o | rdword o | rdlong o | rdbytec o | rdwordc o | rdlongc o =>
    exact .of_own (.runHub h fun _ _ _ _ => .onCog)
  | rdquad o | rdquadc o => exact .of_own (.runQuad h fun _ _ => .onCog)
  -- no operand that is read
  | cachex o | clracca o | clraccb o | clraccs o | fitacca o | fitaccb o | fitaccs o | chkspd o
  | chkspa o | chkspb o | capctra o | capctrb o | polctra o | polctrb o | polvid o =>
    exact .of_own (.runPlain h fun _ => .onCog)
  | reta o | retb o | retad o | retbd o => exact .of_own (.returnWith h)
  | synctra o => exact .of_own (.execSynctra h)
  | synctrb o => exact .of_own (.execSynctrb h)
  | setindaAddr o | setindaDelta o | setindbAddr o | setindbDelta o | setindsAddrAddr o
  | setindsAddrDelta o | setindsDeltaAddr o | setindsDeltaDelta o | fixinda o | fixindb o
  | fixinds o => exact .of_own (.onCog h)
  | nop => exact .of_own (.of_next h)

/-- Settles O54, by cases on what `exec` can do to the chip. -/
theorem sharedStateHasOwners : Obligations.SharedStateHasOwners := by
  intro i s t h
  have did := exec_chipStep h
  clear h
  have others : ∀ c n, n ≠ s.turn → (s.setCog c).cogs.rd n = s.cogs.rd n :=
    fun c n hn => State.setCog_other s c hn
  cases did with
  | own c =>
    have others := others c
    refine ⟨?_, ?_, ?_, ?_, ?_, rfl, rfl, rfl⟩ <;> split <;> trivial
  | wrbyte c | wrword c | wrlong c | wrquad c =>
    exact ⟨others c, trivial, rfl, ⟨rfl, rfl⟩, rfl, rfl, rfl, rfl⟩
  | locknew c | lockret c | lockset c | lockclr c =>
    exact ⟨others c, rfl, trivial, ⟨rfl, rfl⟩, rfl, rfl, rfl, rfl⟩
  | cfgpins c => exact ⟨others c, rfl, rfl, ⟨rfl, rfl⟩, trivial, rfl, rfl, rfl⟩
  | coginit | cogstop => exact ⟨trivial, rfl, rfl, ⟨rfl, rfl⟩, rfl, rfl, rfl, rfl⟩
  | clkset turn tick inputs => exact ⟨trivial, trivial, trivial, trivial, trivial, turn, tick, inputs⟩

end Sys2Proof.Machine
end

section
/-!
HUB memory read back after a store, and what the HUB stores and loads that bypass the cache do.
-/
namespace Sys2Proof.Machine

/-! ### Memory read back -/

/-- The byte that a store puts `i` bytes into the unit that holds `b`. -/
theorem storedByte_unit {w k : Nat} (hk : k = 1 ∨ k = 2 ∨ k = 4) (a b : HubAddress) (v : BitVec w) {i : Nat}
    (hi : i < 2 ^ k) : storedByte k a v (alignTo k b + BitVec.ofNat 17 i) =
      if b.toNat / 2 ^ k = a.toNat / 2 ^ k then some (v.extractLsb' (8 * i) 8) else none := by
  obtain ⟨unit, offset⟩ := (eq_unit_add hk b _ hi).1 rfl
  unfold storedByte
  simp only [sameUnit_iff, unit, offset]

/-- A word is its two bytes, a long its four. -/
theorem word_of_bytes (v : BitVec 16) : v.extractLsb' 8 8 ++ v.extractLsb' 0 8 = v := by
  apply BitVec.eq_of_toNat_eq
  have := v.isLt
  simp only [toNat_append_eq_add, BitVec.extractLsb'_toNat, Nat.shiftRight_eq_div_pow]
  omega

theorem long_of_bytes (v : Word) :
    v.extractLsb' 24 8 ++ v.extractLsb' 16 8 ++ v.extractLsb' 8 8 ++ v.extractLsb' 0 8 = v := by
  apply BitVec.eq_of_toNat_eq
  have := v.isLt
  simp only [toNat_append_eq_add, BitVec.extractLsb'_toNat, Nat.shiftRight_eq_div_pow]
  omega

section
variable {m : List Host.Cell} {a : HubAddress}

theorem memRead1_memWrite1 (h : Memory.wf m = true) (ha : inRom a = false) (b : HubAddress) (v : BitVec 8) :
    memRead1 (memWrite1 m a v) b = if b = a then v else memRead1 m b := by
  rw [memRead1, memRead1, memWrite1, readByte_writeByte h]
  simp only [ha, and_true]

theorem memRead2_memWrite2 (h : Memory.wf m = true) (ha : inRom a = false) (b : HubAddress) (v : BitVec 16) :
    memRead2 (memWrite2 m a v) b = if b.toNat / 2 = a.toNat / 2 then v else memRead2 m b := by
  have stored := fun i => storedByte_unit (k := 1) (i := i) (by decide) a b v
  have s0 := stored 0 (by decide)
  have s1 := stored 1 (by decide)
  rw [BitVec.add_zero] at s0
  show _ = if b.toNat / 2 ^ 1 = a.toNat / 2 ^ 1 then v else memRead2 m b
  unfold memRead2
  simp only [readByte_memWrite2 h ha, s0, s1]
  split
  · exact word_of_bytes v
  · rfl

theorem memRead4_memWrite4 (h : Memory.wf m = true) (ha : inRom a = false) (b : HubAddress) (v : Word) :
    memRead4 (memWrite4 m a v) b = if b.toNat / 4 = a.toNat / 4 then v else memRead4 m b := by
  have stored := fun i => storedByte_unit (k := 2) (i := i) (by decide) a b v
  have s0 := stored 0 (by decide)
  have s1 := stored 1 (by decide)
  have s2 := stored 2 (by decide)
  have s3 := stored 3 (by decide)
  rw [BitVec.add_zero] at s0
  show _ = if b.toNat / 2 ^ 2 = a.toNat / 2 ^ 2 then v else memRead4 m b
  unfold memRead4
  simp only [readByte_memWrite4 h ha, s0, s1, s2, s3]
  split
  · exact long_of_bytes v
  · rfl

end

/-- Settles O57: for each width the canonical form and the read after the store, then extensionality. -/
theorem memoryReadsBackWhatWasWritten : Obligations.MemoryReadsBackWhatWasWritten := by
  refine ⟨fun m a b h ha => ?_, fun m n => wf_ext⟩
  have rom := (inRom_iff a).2 ha
  exact ⟨fun v => ⟨wf_memWrite1 h a v, memRead1_memWrite1 h rom b v⟩,
    fun v => ⟨wf_memWrite2 h a v, memRead2_memWrite2 h rom b v⟩,
    fun v => ⟨wf_memWrite4 h a v, memRead4_memWrite4 h rom b v⟩⟩

/-! ### Stores -/

/-- Bytes stored beside what an instruction does to its COG (R86). -/
theorem Did.withBytes {e : Effect} {d x : Reg} {s t : State} (h : Did e d x s t)
    {bytes : HubAddress → Option Byte} {m : List Host.Cell}
    (hm : ∀ a, readByte m a = (bytes a).getD (readByte s.mem a)) :
    Did { e with bytes := bytes } d x s { t with mem := m } where
  mem := hm
  locks := h.locks
  clk := h.clk
  cnt := h.cnt
  pinCfg := h.pinCfg
  inputs := h.inputs
  turn := h.turn
  tick := h.tick
  others := h.others
  regs := h.regs
  flow := ⟨h.flow.others, h.flow.flagZ, h.flow.flagC, h.flow.pc, h.flow.flush, h.flow.delayed, h.flow.rep⟩
  inda := h.inda
  indb := h.indb
  rest := h.rest

theorem benign_hubAfter (k : Nat) (x : HubOperand) (d y : Reg) (c : Cog) : Benign (hubAfter k x) d y c := by
  cases x with
  | reg x => exact benign_id d y c
  | ptr e =>
    obtain ⟨useB, upd, post, index⟩ := e
    cases upd
    · exact benign_id d y c
    · cases useB <;> constructor <;> rfl

theorem hubStore_ram {ea : HubAddress} (m : List Host.Cell) (s : State) (h : inRom ea = false) :
    hubStore ea m s = .next { s with mem := m } := by
  rw [hubStore, h]
  rfl

/-- WRBYTE, WRWORD and WRLONG complete, given that `write` stores the low `w` bits of D (R180, R183, R186). -/
theorem hubStore_completes {mk : HubWrOps → Instr} {k w : Nat}
    {write : List Host.Cell → HubAddress → Word → List Host.Cell}
    (hx : ∀ o s, exec (mk o) s = runHub k true o.cond o.d o.addr s fun ea _ dv s1 =>
      hubStore ea (write s1.mem ea dv) s1)
    (hw : ∀ {m ea} (v : Word), Memory.wf m = true → inRom ea = false → ∀ b,
      readByte (write m ea v) b = (storedByte k ea (v.setWidth w) b).getD (readByte m b))
    {o : HubWrOps} {s : State} (hr : readyHub true o.cond o.d o.addr s) (wf : Memory.wf s.mem = true)
    (ram : inRom (hubAddr k s.inputs s.cog o.addr) = false) :
    Completes (mk o) o.d (hubReg o.addr)
      { bytes := storedByte k (hubAddr k s.inputs s.cog o.addr) ((valueOf s o.d).setWidth w)
        cog := hubAfter k o.addr } s := by
  refine ⟨_, ?_, (did_other (benign_hubAfter k o.addr _ _ _)).withBytes (hw _ wf ram)⟩
  rw [hx, runHub_ready hr, hubStore_ram _ _ ram, State.setCog_mem]

/-- The low bits of a long as WRBYTE and WRWORD take them. -/
theorem extractLsb'_zero_eq_setWidth (v : Word) (w : Nat) : v.extractLsb' 0 w = v.setWidth w := by
  rw [extractLsb'_zero, BitVec.ofNat_toNat]

/-- Settles O16: one argument for the three widths. -/
theorem hubStoresWriteTheirBytesOnly : Obligations.HubStoresWriteTheirBytesOnly := by
  refine ⟨fun o s => hubStore_completes (write := fun m ea v => memWrite1 m ea (v.extractLsb' 0 8))
      exec_wrbyte fun v h ram b => ?_,
    fun o s => hubStore_completes (write := fun m ea v => memWrite2 m ea (v.extractLsb' 0 16))
      exec_wrword fun v h ram b => ?_,
    fun o s => hubStore_completes (write := memWrite4) exec_wrlong fun v h ram b => ?_⟩
  · rw [readByte_memWrite1 h ram, extractLsb'_zero_eq_setWidth]
  · rw [readByte_memWrite2 h ram, extractLsb'_zero_eq_setWidth]
  · rw [readByte_memWrite4 h ram, BitVec.setWidth_eq]

/-! ### Loads -/

theorem getLsbD_alignTo (k : Nat) (a : HubAddress) (i : Nat) :
    (alignTo k a).getLsbD i = (decide (k ≤ i) && a.getLsbD i) := by
  rw [alignTo, BitVec.getLsbD_shiftLeft, BitVec.getLsbD_ushiftRight]
  by_cases low : i < k
  · simp [low, Nat.not_le.2 low]
  · have high := Nat.not_lt.1 low
    by_cases inside : i < 17
    · simp [low, high, inside]
    · simp [inside, BitVec.getLsbD_of_ge a i (Nat.not_lt.1 inside)]

/-- The low bits of an address dropped, as a mask. -/
theorem alignTo_eq_and {k : Nat} {mask : HubAddress}
    (hm : ∀ i < 17, mask.getLsbD i = decide (k ≤ i)) (a : HubAddress) : alignTo k a = a &&& mask := by
  apply BitVec.eq_of_getLsbD_eq
  intro i hi
  rw [getLsbD_alignTo, BitVec.getLsbD_and, hm i hi, Bool.and_comm]

/-- An offset inside the aligned unit does not carry. -/
theorem alignTo_add_eq_or {k : Nat} {mask offset : HubAddress}
    (hm : ∀ i < 17, mask.getLsbD i = decide (k ≤ i)) (disjoint : mask &&& offset = 0#17) (a : HubAddress) :
    alignTo k a + offset = (a &&& mask) ||| offset := by
  rw [alignTo_eq_and hm, BitVec.add_eq_or_of_and_eq_zero]
  rw [BitVec.and_assoc, disjoint, BitVec.and_zero]

theorem wordMask : ∀ i < 17, (0x1FFFE#17).getLsbD i = decide (1 ≤ i) := by decide

theorem longMask : ∀ i < 17, (0x1FFFC#17).getLsbD i = decide (2 ≤ i) := by decide

theorem memRead2_eq_bytes (m : List Host.Cell) (a : HubAddress) :
    memRead2 m a = readByte m (a ||| 1#17) ++ readByte m (a &&& 0x1FFFE#17) := by
  have high : (a &&& 0x1FFFE#17) ||| 1#17 = a ||| 1#17 := by
    apply BitVec.eq_of_getLsbD_eq
    intro i hi
    rw [BitVec.getLsbD_or, BitVec.getLsbD_or, BitVec.getLsbD_and, wordMask i hi]
    cases i with
    | zero => simp
    | succ i => simp
  rw [memRead2, alignTo_add_eq_or wordMask (by decide), alignTo_eq_and wordMask, high]

theorem memRead4_eq_bytes (m : List Host.Cell) (a : HubAddress) :
    memRead4 m a = readByte m (a &&& 0x1FFFC#17 ||| 3#17) ++ readByte m (a &&& 0x1FFFC#17 ||| 2#17) ++
      readByte m (a &&& 0x1FFFC#17 ||| 1#17) ++ readByte m (a &&& 0x1FFFC#17) := by
  rw [memRead4, alignTo_add_eq_or longMask (by decide), alignTo_add_eq_or longMask (by decide),
    alignTo_add_eq_or longMask (by decide), alignTo_eq_and longMask]

/-- A load completes: D gets `v`, and Z whether it is zero, after a change `f` of other state (R174). -/
theorem delivers_completes {i : Instr} {f : Cog → Cog} {d x : Reg} {s : State} (hf : Benign f d x s.cog)
    {z : Bool} {v : Word} (hx : exec i s = .next (s.setCog (deliver z true (addrOf s d) v (f (enter d x s.cog))))) :
    Completes i d x { resultEffect z false true (addrOf s d) v (decide (v = 0#32)) false with cog := f } s :=
  ⟨_, hx.trans (by rw [deliver, beq_eq_decide]; rfl), did_result hf true z false _ _ _ false⟩

/-- RDBYTE, RDWORD and RDLONG complete, given that `read` gives the long for D (R181, R184, R187). -/
theorem hubLoad_completes {mk : HubRdOps → Instr} {k : Nat} {read : List Host.Cell → HubAddress → Word}
    (hx : ∀ o s, exec (mk o) s = runHub k false o.cond o.d o.addr s fun ea da _ s1 =>
      onCog (deliver o.z true da (read s1.mem ea)) s1)
    {o : HubRdOps} {s : State} (hr : readyHub false o.cond o.d o.addr s) {v : Word}
    (hv : v = read s.mem (hubAddr k s.inputs s.cog o.addr)) :
    Completes (mk o) o.d (hubReg o.addr)
      { resultEffect o.z false true (addrOf s o.d) v (decide (v = 0#32)) false with
        cog := hubAfter k o.addr } s := by
  refine delivers_completes (benign_hubAfter k o.addr _ _ _) ?_
  rw [hx, runHub_ready hr, onCog, State.setCog_cog, State.setCog_setCog, State.setCog_mem, hv]

/-- Settles O17: one argument for the three widths. -/
theorem hubLoadsReadTheirBytes : Obligations.HubLoadsReadTheirBytes := by
  refine ⟨fun o s hr => hubLoad_completes (read := fun m ea => (memRead1 m ea).setWidth 32) exec_rdbyte hr rfl,
    fun o s hr => hubLoad_completes (read := fun m ea => (memRead2 m ea).setWidth 32) exec_rdword hr ?_,
    fun o s hr => hubLoad_completes (read := memRead4) exec_rdlong hr ?_⟩
  · rw [memRead2_eq_bytes]
  · rw [memRead4_eq_bytes]

end Sys2Proof.Machine
end

section
/-!
The QUADs as a read cache: hits, fills and the bytes they hold; the cached loads and the QUAD transfers.
-/
namespace Sys2Proof.Machine

/-! ### The QUAD cache -/

theorem tag_toNat (a : HubAddress) : (a.extractLsb' 4 13).toNat = a.toNat / 16 := by
  have := a.isLt
  rw [BitVec.extractLsb'_toNat, Nat.shiftRight_eq_div_pow]
  omega

theorem tag_eq (a : HubAddress) : a.extractLsb' 4 13 = BitVec.ofNat 13 (a.toNat / 16) := by
  rw [← tag_toNat, BitVec.ofNat_toNat, BitVec.setWidth_eq]

/-- A hit: the cache is valid and its tag is the number of the block (R173). -/
theorem cacheHit_iff (c : Cog) (a : HubAddress) :
    cacheHit c a = true ↔ c.qvalid = true ∧ c.qtag.toNat = a.toNat / 16 := by
  rw [cacheHit, Bool.and_eq_true, beq_iff_eq, ← BitVec.toNat_inj, tag_toNat]

/-- A long of the aligned block, byte by byte (R84, D38). -/
theorem quadLong_eq_bytes (m : List Host.Cell) (a : HubAddress) (k : BitVec 2) :
    quadLong m a k =
      readByte m (BitVec.ofNat 17 (a.toNat / 16 * 16 + (4 * k.toNat + 3))) ++
      readByte m (BitVec.ofNat 17 (a.toNat / 16 * 16 + (4 * k.toNat + 2))) ++
      readByte m (BitVec.ofNat 17 (a.toNat / 16 * 16 + (4 * k.toNat + 1))) ++
      readByte m (BitVec.ofNat 17 (a.toNat / 16 * 16 + 4 * k.toNat)) := by
  have aligned : alignTo 2 (alignTo 4 a) = alignTo 4 a := by
    apply BitVec.eq_of_toNat_eq
    rw [alignTo_toNat, alignTo_toNat]
    omega
  have wide : (k.setWidth 9).setWidth 17 = k.setWidth 17 := by revert k; decide
  have number : (k.setWidth 9).toNat = k.toNat := by revert k; decide
  have size : 2 ^ 4 = 16 := rfl
  have block := memRead4_block m aligned (k.setWidth 9)
  rw [wide, number, alignTo_toNat, size] at block
  simp only [quadLong, block, Nat.add_assoc]

/-- PTRA and PTRB are all that a HUB address operand moves. -/
theorem hubAfter_eq (k : Nat) (x : HubOperand) (c : Cog) :
    ∃ a b, hubAfter k x c = { c with ptra := a, ptrb := b } := by
  cases x with
  | reg x => exact ⟨_, _, rfl⟩
  | ptr e =>
    obtain ⟨useB, upd, post, index⟩ := e
    cases upd
    · exact ⟨_, _, rfl⟩
    · cases useB <;> exact ⟨_, _, rfl⟩

theorem hubAfter_quads (k : Nat) (x : HubOperand) (c : Cog) : (hubAfter k x c).quads = c.quads := by
  obtain ⟨a, b, h⟩ := hubAfter_eq k x c
  rw [h]

theorem cacheHit_hubAfter (k : Nat) (x : HubOperand) (c : Cog) (ea : HubAddress) :
    cacheHit (hubAfter k x c) ea = cacheHit c ea := by
  obtain ⟨a, b, h⟩ := hubAfter_eq k x c
  rw [h]
  rfl

/-- References and pointers that move do not change whether an address hits. -/
theorem cacheHit_slot (k : Nat) (x : HubOperand) (d y : Reg) (c : Cog) (ea : HubAddress) :
    cacheHit (hubAfter k x (enter d y c)) ea = cacheHit c ea := cacheHit_hubAfter k x (enter d y c) ea

/-- Nor what a cached read finds in the QUADs. -/
theorem cacheLoad_quads_slot (m : List Host.Cell) (ea : HubAddress) (k : Nat) (x : HubOperand) (d y : Reg)
    (c : Cog) : (cacheLoad m ea (hubAfter k x (enter d y c))).quads = (cacheLoad m ea c).quads := by
  unfold cacheLoad
  rw [cacheHit_slot]
  split
  · exact hubAfter_quads k x (enter d y c)
  · rfl

section
variable {f g : Cog → Cog} {d x : Reg} {c : Cog}

theorem Benign.congr (h : Benign f d x c) (entered : g (enter d x c) = f (enter d x c))
    (before : g (quiet c) = f (quiet c)) : Benign g d x c := by
  constructor <;> rw [entered]
  · exact h.tasks
  · exact h.cur
  · exact h.rep
  all_goals rw [before]
  · exact h.ram
  · exact h.quads
  · exact h.out
  · exact h.dir
  · exact h.wrote0
  · exact h.qbase
  · exact h.por
  · exact h.inda
  · exact h.indb
  · exact h.rest

theorem Benign.cacheFill (h : Benign f d x c) (m : List Host.Cell) (ea : HubAddress) :
    Benign (fun c => cacheFill m ea (f c)) d x c where
  tasks := h.tasks
  cur := h.cur
  rep := h.rep
  ram := h.ram
  quads := rfl
  out := h.out
  dir := h.dir
  wrote0 := h.wrote0
  qbase := h.qbase
  por := h.por
  inda := h.inda
  indb := h.indb
  rest := congrArg (fun r => { r with qtag := ea.extractLsb' 4 13, qvalid := true, fillAge := 0 }) h.rest

/-- The tag and the valid bit are part of `rest`, so a hit before the slot is a hit in it. -/
theorem Benign.cacheLoad (h : Benign f d x c) (m : List Host.Cell) (ea : HubAddress) :
    Benign (fun c => cacheLoad m ea (f c)) d x c := by
  have same : cacheHit (f (enter d x c)) ea = cacheHit (f (quiet c)) ea :=
    (congrArg (cacheHit · ea) h.rest :)
  by_cases hit : cacheHit (f (quiet c)) ea = true
  · exact h.congr (if_pos (same.trans hit)) (if_pos hit)
  · exact (h.cacheFill m ea).congr (if_neg (same ▸ hit)) (if_neg hit)

end

/-! ### Bytes of the QUADs -/

/-- The byte, word or long (`k` = 0, 1, 2) that the QUADs hold at bits 3:0 of an address, aligned. -/
def quadsValue (k : Nat) (q : Bank 2 Word) (a : HubAddress) : Word :=
  BitVec.ofNat 32 ((quadBits q).toNat / 2 ^ (8 * (a.toNat % 16 / 2 ^ k * 2 ^ k)) % 2 ^ (8 * 2 ^ k))

theorem cacheByte_toNat (c : Cog) (k : BitVec 4) :
    (cacheByte c k).toNat = (quadBits c.quads).toNat / 2 ^ (8 * k.toNat) % 2 ^ 8 := by
  have long : k.extractLsb' 2 2 = BitVec.ofNat 2 (k.toNat / 4) := by revert k; decide
  have byte : (k.extractLsb' 0 2).toNat = k.toNat % 4 := by revert k; decide
  rw [cacheByte, long, byte, ← quadBits_byte _ _ k.isLt, BitVec.extractLsb'_toNat,
    Nat.shiftRight_eq_div_pow]

theorem quads_rd_toNat (q : Bank 2 Word) (k : BitVec 2) :
    (q.rd k).toNat = (quadBits q).toNat / 2 ^ (32 * k.toNat) % 2 ^ 32 := by
  have h0 := (q.rd 0#2).isLt
  have h1 := (q.rd 1#2).isLt
  have h2 := (q.rd 2#2).isLt
  have h3 := (q.rd 3#2).isLt
  have four : k = 0#2 ∨ k = 1#2 ∨ k = 2#2 ∨ k = 3#2 := by revert k; decide
  simp only [quadBits, toNat_append_eq_add]
  rcases four with rfl | rfl | rfl | rfl <;> norm_num <;> omega

theorem cachedByte_eq (c : Cog) (a : HubAddress) : cachedByte c a = quadsValue 0 c.quads a := by
  have index : (a.extractLsb' 0 4).toNat = a.toNat % 16 := by
    rw [BitVec.extractLsb'_toNat, Nat.shiftRight_zero]
  apply BitVec.eq_of_toNat_eq
  rw [cachedByte, quadsValue, BitVec.toNat_setWidth, cacheByte_toNat, index, BitVec.toNat_ofNat]
  simp

theorem cachedWord_eq (c : Cog) (a : HubAddress) : cachedWord c a = quadsValue 1 c.quads a := by
  have low : (a.extractLsb' 1 3 ++ 0#1).toNat = a.toNat % 16 / 2 * 2 := by
    rw [toNat_append_eq_add, BitVec.extractLsb'_toNat, Nat.shiftRight_eq_div_pow, BitVec.toNat_ofNat]
    omega
  have high : (a.extractLsb' 1 3 ++ 0#1 + 1#4).toNat = a.toNat % 16 / 2 * 2 + 1 := by
    rw [BitVec.toNat_add, low, BitVec.toNat_ofNat]
    omega
  apply BitVec.eq_of_toNat_eq
  rw [cachedWord, quadsValue, BitVec.toNat_setWidth, toNat_append_eq_add, cacheByte_toNat, cacheByte_toNat,
    high, low, BitVec.toNat_ofNat, Nat.mul_add, pow_add, ← Nat.div_div_eq_div_mul]
  generalize (quadBits c.quads).toNat / 2 ^ (8 * (a.toNat % 16 / 2 * 2)) = rest
  omega

theorem cachedLong_eq (c : Cog) (a : HubAddress) : cachedLong c a = quadsValue 2 c.quads a := by
  have index : (a.extractLsb' 2 2).toNat = a.toNat % 16 / 4 := by
    rw [BitVec.extractLsb'_toNat, Nat.shiftRight_eq_div_pow]
    omega
  have bits : 32 * (a.toNat % 16 / 4) = 8 * (a.toNat % 16 / 2 ^ 2 * 2 ^ 2) := by omega
  apply BitVec.eq_of_toNat_eq
  rw [cachedLong, quadsValue, quads_rd_toNat, index, bits, BitVec.toNat_ofNat]
  simp

/-! ### Cached loads -/

/-- RDBYTEC, RDWORDC and RDLONGC complete, given that `read` is what the QUADs hold at the address and `load` is
what a cached read does to them (R173, R182, R185, R188). -/
theorem cachedLoad_completes {mk : HubRdOps → Instr} {k : Nat} {read : Cog → HubAddress → Word}
    (hx : ∀ o s, exec (mk o) s = runHub k false o.cond o.d o.addr s fun ea da _ s1 =>
      onCog (fun c => deliver o.z true da (read (cacheLoad s1.mem ea c) ea) (cacheLoad s1.mem ea c)) s1)
    (hread : ∀ c a, read c a = quadsValue k c.quads a)
    {o : HubRdOps} {s : State} (hr : readyHub false o.cond o.d o.addr s) {load : Cog → Cog}
    (hl : load = cacheLoad s.mem (hubAddr k s.inputs s.cog o.addr)) {v : Word}
    (hv : v = quadsValue k (load s.cog).quads (hubAddr k s.inputs s.cog o.addr)) :
    Completes (mk o) o.d (hubReg o.addr)
      { resultEffect o.z false true (addrOf s o.d) v (decide (v = 0#32)) false with
        cog := fun c => load (hubAfter k o.addr c) } s := by
  subst hl
  have benign := (benign_hubAfter k o.addr o.d (hubReg o.addr) s.cog).cacheLoad s.mem
    (hubAddr k s.inputs s.cog o.addr)
  refine delivers_completes benign ?_
  rw [hx, runHub_ready hr, onCog, State.setCog_cog, State.setCog_setCog, State.setCog_mem, hread,
    cacheLoad_quads_slot, hv]

/-- Settles O18: `load` of the statement is `cacheLoad`; then one argument for the three widths. -/
theorem cachedLoadsReadTheQuads : Obligations.CachedLoadsReadTheQuads := by
  unfold Obligations.CachedLoadsReadTheQuads
  intro hit block long load does
  have hits : ∀ c a, hit c a = cacheHit c a := fun c a => by
    rw [Bool.eq_iff_iff, cacheHit_iff, Bool.and_eq_true, decide_eq_true_iff]
  have loads : ∀ m a, load (readByte m) a = cacheLoad m a := fun m a => funext fun c => by
    have fills : cacheFill m a c =
        { c with
          quads := #v[long (readByte m) a 0, long (readByte m) a 1, long (readByte m) a 2, long (readByte m) a 3]
          qtag := BitVec.ofNat 13 (a.toNat / 16), qvalid := true, fillAge := 0 } := by
      simp only [cacheFill, quadLong_eq_bytes, tag_eq]
      rfl
    rw [cacheLoad, fills, ← hits]
  exact ⟨fun o s hr => cachedLoad_completes exec_rdbytec cachedByte_eq hr (loads _ _) rfl,
    fun o s hr => cachedLoad_completes exec_rdwordc cachedWord_eq hr (loads _ _) rfl,
    fun o s hr => cachedLoad_completes exec_rdlongc cachedLong_eq hr (loads _ _) rfl⟩

/-! ### QUAD transfers -/

/-- Settles O19, instruction by instruction. -/
theorem quadTransfers : Obligations.QuadTransfers := by
  refine ⟨fun o s hr wf ram => ?_, fun o s hr => ?_, fun o s hr => ?_⟩
  · refine ⟨_, ?_, (did_other (benign_hubAfter 4 o.addr _ _ _)).withBytes (readByte_memWriteQuad wf ram _)⟩
    rw [exec_wrquad, execWrquad, runQuad_ready hr, hubStore_ram _ _ ram, State.setCog_mem, State.setCog_cog,
      hubAfter_quads]
    rfl
  · refine ⟨_, ?_, did_other ((benign_hubAfter 4 o.addr _ _ _).cacheFill _ _)⟩
    rw [exec_rdquad, execRdquad, runQuad_ready hr, onCog, State.setCog_cog, State.setCog_setCog,
      State.setCog_mem]
  · have benign := benign_hubAfter 4 o.addr (hubReg o.addr) noReg s.cog
    have load : exec (.rdquadc o) s = .next (s.setCog (cacheLoad s.mem (hubAddr 4 s.inputs s.cog o.addr)
        (hubAfter 4 o.addr (enter (hubReg o.addr) noReg s.cog)))) := by
      rw [exec_rdquadc, execRdquadc, runQuad_ready hr, onCog, State.setCog_cog, State.setCog_setCog,
        State.setCog_mem]
    simp only [← cacheHit_iff]
    by_cases hit : cacheHit s.cog (hubAddr 4 s.inputs s.cog o.addr) = true
    · simp only [if_pos hit]
      exact ⟨_, load.trans (by rw [cacheLoad, cacheHit_slot, if_pos hit]), did_other benign⟩
    · simp only [if_neg hit]
      exact ⟨_, load.trans (by rw [cacheLoad, cacheHit_slot, if_neg hit]), did_other (benign.cacheFill _ _)⟩

end Sys2Proof.Machine
end

section
/-!
When an instruction executes, what its operand forms name, and that an instruction that does not execute is
a NOP (R124, R127, R129, R131, R271, R276).
-/
namespace Sys2Proof.Machine

/-! ### The condition -/

theorem executes_iff (c : Cog) (cond : Cond) (ind : Bool) : executes c cond ind = true ↔
    ind = true ∨ cond.getLsbD ((if c.flagC then 2 else 0) + (if c.flagZ then 1 else 0)) = true := by
  rw [executes, Bool.or_eq_true, paramsSpec_condTable, condHolds_iff]

theorem executes_eq_false {c : Cog} {cond : Cond} {ind : Bool} (direct : ind = false)
    (fails : cond.getLsbD ((if c.flagC then 2 else 0) + (if c.flagZ then 1 else 0)) = false) :
    executes c cond ind = false := by
  rw [Bool.eq_false_iff, ne_eq, executes_iff, direct, fails]
  simp

/-! ### Operands -/

/-- The address of a reference: ++INDx is one further, from the top to the bottom (R271, R272). -/
theorem indAddr_toNat (p : IndPtr) (m : BitVec 2) : (indAddr p m).toNat =
    if m ≠ 3#2 then p.ptr.toNat else if p.ptr = p.top then p.bot.toNat else (p.ptr.toNat + 1) % 2 ^ 9 := by
  unfold indAddr indInc
  by_cases hm : m = 3#2
  · rw [if_pos hm, if_neg (not_not.2 hm), apply_ite BitVec.toNat, BitVec.toNat_add]
    rfl
  · rw [if_neg hm, if_pos hm]

theorem sourceOf_imm_toNat (s : State) (n : BitVec 9) : (sourceOf s (.imm n)).toNat = n.toNat := by
  have := n.isLt
  rw [sourceOf, srcValue, BitVec.toNat_setWidth]
  omega

theorem numberOf_imm_toNat {w : Nat} (hw : w ≤ 9) (s : State) (n : BitVec 9) :
    (numberOf w s (.imm n)).toNat = n.toNat % 2 ^ w := by
  rw [numberOf, dimmValue, BitVec.toNat_setWidth, BitVec.toNat_setWidth]
  have : 2 ^ w ≤ 2 ^ 32 := Nat.pow_le_pow_right (by decide) (by omega)
  exact Nat.mod_eq_of_lt ((Nat.mod_lt _ (Nat.two_pow_pos w)).trans_le this)

/-! ### An instruction that does not execute -/

/-- The frame of every operand form: an idle slot where the instruction does not execute. -/
theorem idle_frame {ex : Bool} {x : Result} {s : State} (h : ex = false) :
    (if ex then x else .next (skipSlot s)) = .next (skipSlot s) := by
  rw [h]; rfl

/-- The instructions `mk` are an idle slot where their condition fails. -/
def Idles {α : Type} (cond : α → Cond) (ind : α → Bool) (mk : α → Instr) : Prop :=
  ∀ o s, executes s.cog (cond o) (ind o) = false → exec (mk o) s = .next (skipSlot s)

/-- CALL and CALLD: their S field holds a number, so the condition turns on D alone. -/
theorem idles_call {mk : CallOps → Instr} {delayed : Bool}
    (h : ∀ o s, exec (mk o) s = jmpRetWith delayed false true o.cond o.d (.imm o.target) s) :
    Idles CallOps.cond (fun o => o.d.isInd) mk := by
  intro o s fails
  rw [h]
  exact idle_frame (ex := executes s.cog o.cond (o.d.isInd || false)) (by rwa [Bool.or_false])

/-- An idle slot is the empty effect. -/
theorem completes_of_idles {α : Type} {cond : α → Cond} {ind : α → Bool} {l : List (α → Instr)}
    (h : ∀ mk ∈ l, Idles cond ind mk) : ∀ mk ∈ l, ∀ (o : α) (s : State), ind o = false →
      (cond o).getLsbD ((if s.cog.flagC then 2 else 0) + (if s.cog.flagZ then 1 else 0)) = false →
      Completes (mk o) noReg noReg {} s :=
  fun mk hmk o s direct fails =>
    ⟨skipSlot s, h mk hmk o s (executes_eq_false direct fails), did_skipSlot s⟩

/-- Settles O47: the idle slot by operand form. -/
theorem failedConditionIsNop : Obligations.FailedConditionIsNop := by
  refine ⟨executes_iff, fun c a m => ⟨rfl, indAddr_toNat _ m, indAddr_toNat _ m⟩,
    fun s r n w hw => ⟨rfl, rfl, sourceOf_imm_toNat s n, numberOf_imm_toNat hw s n⟩, ?_⟩
  intro nop
  and_intros
  all_goals refine completes_of_idles fun mk hmk => ?_
  on_goal 28 =>
    fin_cases hmk
    · exact idles_call exec_call
    · exact idles_call exec_calld
  all_goals fin_cases hmk <;> exact fun o s fails => idle_frame fails

end Sys2Proof.Machine
end

section
/-!
The fields of a word and the operands in them. A word is its eight fields. An operand that the decoder
reads is admitted and has the bits it was read from, and the bits of an admitted operand are read as that
operand; with the condition, which shares CCCC with the modifiers, this is said once for each operand form
(R121, R127, R128, R131, R132, R134).
-/
namespace Sys2Proof

/-! ### A word and its fields -/

theorem wordOf_toNat (f : Fields) : (wordOf f).toNat =
    ((((((f.op.toNat * 2 + f.z.toNat) * 2 + f.c.toNat) * 2 + f.r.toNat) * 2 + f.i.toNat) * 2 ^ 4 +
      f.cond.toNat) * 2 ^ 9 + f.d.toNat) * 2 ^ 9 + f.s.toNat := by
  simp only [wordOf, Machine.toNat_append_eq_add, BitVec.toNat_ofBool, pow_one]

theorem getLsbD_eq_of_div_mod {w n : Nat} {v : BitVec w} {b : Bool} (h : v.toNat / 2 ^ n % 2 = b.toNat) :
    v.getLsbD n = b := by
  rw [BitVec.getLsbD, Nat.testBit_eq_decide_div_mod_eq, h]
  cases b <;> rfl

theorem ofBool_getLsbD {w : Nat} (v : BitVec w) (n : Nat) :
    BitVec.ofBool (v.getLsbD n) = v.extractLsb' n 1 := by
  apply BitVec.eq_of_getLsbD_eq
  intro i hi
  obtain rfl : i = 0 := by omega
  simp

@[simp] theorem fieldsOf_wordOf (f : Fields) : fieldsOf (wordOf f) = f := by
  have word := wordOf_toNat f
  obtain ⟨op, z, c, r, i, cond, d, s⟩ := f
  dsimp only at word
  have := z.toNat_lt
  have := c.toNat_lt
  have := r.toNat_lt
  have := i.toNat_lt
  have := cond.isLt
  have := d.isLt
  have := s.isLt
  simp only [fieldsOf, Fields.mk.injEq, ← BitVec.toNat_inj, BitVec.extractLsb'_toNat,
    Nat.shiftRight_eq_div_pow]
  refine ⟨?_, getLsbD_eq_of_div_mod ?_, getLsbD_eq_of_div_mod ?_, getLsbD_eq_of_div_mod ?_,
    getLsbD_eq_of_div_mod ?_, ?_, ?_, ?_⟩
  all_goals rw [word]; omega

@[simp] theorem wordOf_fieldsOf (w : Word) : wordOf (fieldsOf w) = w := by
  simp only [wordOf, fieldsOf, ofBool_getLsbD, BitVec.extractLsb'_append_extractLsb'_eq_extractLsb',
    BitVec.extractLsb'_eq_self]

/-! ### PTR expressions (R134) -/

@[simp] theorem ptrBits_ptrOperand (x : BitVec 9) : ptrBits (ptrOperand x) = x := by
  simp only [ptrBits, ptrOperand, ofBool_getLsbD, BitVec.extractLsb'_append_extractLsb'_eq_extractLsb',
    BitVec.extractLsb'_eq_self]

@[simp] theorem ptrOperand_ptrBits (e : PtrExpr) : ptrOperand (ptrBits e) = e := by
  obtain ⟨b, u, p, index⟩ := e
  have bits : (ptrBits ⟨b, u, p, index⟩).toNat =
      ((b.toNat * 2 + u.toNat) * 2 + p.toNat) * 2 ^ 6 + index.toNat := by
    simp only [ptrBits, Machine.toNat_append_eq_add, BitVec.toNat_ofBool, pow_one]
  have := b.toNat_lt
  have := u.toNat_lt
  have := p.toNat_lt
  have := index.isLt
  simp only [ptrOperand, PtrExpr.mk.injEq, ← BitVec.toNat_inj, BitVec.extractLsb'_toNat,
    Nat.shiftRight_eq_div_pow]
  refine ⟨getLsbD_eq_of_div_mod ?_, getLsbD_eq_of_div_mod ?_, getLsbD_eq_of_div_mod ?_, ?_⟩
  all_goals rw [bits]; omega

/-! ### The condition and the modifiers (R131) -/

@[simp] theorem condHigh_append (dm sm : BitVec 2) : condHigh (dm ++ sm) = dm :=
  BitVec.extractLsb'_append_eq_left

@[simp] theorem condLow_append (dm sm : BitVec 2) : condLow (dm ++ sm) = sm :=
  BitVec.extractLsb'_append_eq_right

theorem condHigh_append_condLow (x : BitVec 4) : condHigh x ++ condLow x = x :=
  BitVec.extractLsb'_append_extractLsb'

/-- The modifier of an operand is the half of CCCC that belongs to it, and 00 where it is no reference. -/
def modOf (ind : Bool) (half : BitVec 2) : BitVec 2 := if ind then half else 0#2

/-- The condition that is read is admitted, and with the modifiers it makes up CCCC; and so it is read. -/
theorem condOf_eq_ok_iff {f : Fields} {a b : Bool} {cond : Cond} :
    condOf f a b = .ok cond ↔ condOk cond (a || b) = true ∧
      f.cond = condBits cond (a || b) (modOf a (condHigh f.cond)) (modOf b (condLow f.cond)) := by
  have whole := condHigh_append_condLow f.cond
  have append (x y : BitVec 2) : f.cond = x ++ y ↔ condHigh f.cond = x ∧ condLow f.cond = y :=
    ⟨fun h => by rw [h]; simp, fun ⟨hx, hy⟩ => by rw [← hx, ← hy, whole]⟩
  cases a <;> cases b
  · simp [condOf, condOk, condBits]
  · by_cases h : condHigh f.cond = 0#2 <;>
      simp [condOf, condOk, condBits, modOf, append, eq_comm (a := 15#4), h]
  · by_cases h : condLow f.cond = 0#2 <;>
      simp [condOf, condOk, condBits, modOf, append, eq_comm (a := 15#4), h]
  · simp [condOf, condOk, condBits, modOf, append, eq_comm (a := 15#4)]

/-- The modifiers are read back from CCCC. -/
theorem modOf_condBits {cond cccc : BitVec 4} {a b : Bool} {dm sm : BitVec 2}
    (h : cccc = condBits cond (a || b) dm sm) (ha : a = false → dm = 0#2) (hb : b = false → sm = 0#2) :
    dm = modOf a (condHigh cccc) ∧ sm = modOf b (condLow cccc) := by
  subst h
  cases a <;> cases b <;> simp_all [condBits, modOf]

/-! ### Operands -/

theorem modBits_direct {x : Reg} (h : x.isInd = false) : modBits x = 0#2 := by
  cases x with
  | dir a => rfl
  | ind y n => cases h

theorem srcModBits_direct {x : Src} (h : x.isInd = false) : srcModBits x = 0#2 := by
  cases x with
  | reg y => exact modBits_direct h
  | imm n => rfl

theorem hubModBits_direct {x : HubOperand} (h : x.isInd = false) : hubModBits x = 0#2 := by
  cases x with
  | reg y => exact modBits_direct h
  | ptr e => rfl

theorem dimmModBits_direct {x : DImm} (h : x.isInd = false) : dimmModBits x = 0#2 := by
  cases x with
  | reg y => exact modBits_direct h
  | imm n => rfl

theorem regOf_eq_iff {a : RegAddr} {m : BitVec 2} {x : Reg} :
    regOf a m = x ↔ (x.wf = true ∧ a = regBits x) ∧ modBits x = modOf x.isInd m := by
  constructor
  · rintro rfl
    unfold regOf
    split
    · next h => exact ⟨⟨rfl, beq_iff_eq.1 h⟩, rfl⟩
    split
    · next h => exact ⟨⟨rfl, beq_iff_eq.1 h⟩, rfl⟩
    · next ha hb => simp_all [Reg.wf, isIndAddr, regBits, modBits, modOf, Reg.isInd]
  · rintro ⟨⟨wf, rfl⟩, mods⟩
    cases x with
    | dir a => simp_all [Reg.wf, isIndAddr, regOf, regBits]
    | ind y n =>
      obtain rfl : n = m := mods
      cases y <;> rfl

theorem dOperand_eq_iff {f : Fields} {x : Reg} :
    dOperand f = x ↔ (x.wf = true ∧ f.d = regBits x) ∧ modBits x = modOf x.isInd (condHigh f.cond) :=
  regOf_eq_iff

theorem sOperand_eq_iff {f : Fields} {x : Reg} :
    sOperand f = x ↔ (x.wf = true ∧ f.s = regBits x) ∧ modBits x = modOf x.isInd (condLow f.cond) :=
  regOf_eq_iff

theorem srcOperand_eq_iff {f : Fields} {x : Src} :
    srcOperand f = x ↔ (x.wf = true ∧ f.i = x.isImm ∧ f.s = srcBits x) ∧
      srcModBits x = modOf x.isInd (condLow f.cond) := by
  unfold srcOperand
  cases x with
  | reg y =>
    cases f.i <;>
      simp [sOperand_eq_iff, Src.wf, Src.isImm, Src.isInd, srcBits, srcModBits]
  | imm n => cases f.i <;> simp [Src.wf, Src.isImm, Src.isInd, srcBits, srcModBits, modOf]

/-- A HUB operand in the field `a`, whose flag bit is `p` (R134, R171). -/
theorem hubOperandAt_eq_iff {p : Bool} {a : BitVec 9} {m : BitVec 2} {x : HubOperand} :
    (if p then HubOperand.ptr (ptrOperand a) else .reg (regOf a m)) = x ↔
      (x.wf = true ∧ p = hubIsPtr x ∧ a = hubBits x) ∧ hubModBits x = modOf x.isInd m := by
  cases x with
  | reg y =>
    cases p <;>
      simp [regOf_eq_iff, HubOperand.wf, hubIsPtr, HubOperand.isInd, hubBits, hubModBits]
  | ptr e =>
    have read : ptrOperand a = e ↔ a = ptrBits e :=
      ⟨fun h => by rw [← h, ptrBits_ptrOperand], fun h => by rw [h, ptrOperand_ptrBits]⟩
    cases p <;> simp [HubOperand.wf, hubIsPtr, HubOperand.isInd, hubBits, hubModBits, modOf, read]

theorem hubOperand_eq_iff {f : Fields} {x : HubOperand} :
    hubOperand f = x ↔ (x.wf = true ∧ f.i = hubIsPtr x ∧ f.s = hubBits x) ∧
      hubModBits x = modOf x.isInd (condLow f.cond) :=
  hubOperandAt_eq_iff

theorem quadOperand_eq_iff {f : Fields} {x : HubOperand} :
    quadOperand f = x ↔ (x.wf = true ∧ f.r = hubIsPtr x ∧ f.d = hubBits x) ∧
      hubModBits x = modOf x.isInd (condHigh f.cond) :=
  hubOperandAt_eq_iff

theorem dimmOperand_eq_ok_iff {f : Fields} {x : DImm} :
    dimmOperand f = .ok x ↔ (x.wf = true ∧ f.r = dimmIsImm x ∧ f.d = dimmBits x) ∧
      dimmModBits x = modOf x.isInd (condHigh f.cond) := by
  unfold dimmOperand
  cases x with
  | reg y =>
    cases f.r <;> cases isIndAddr f.d <;>
      simp [dOperand_eq_iff, DImm.wf, dimmIsImm, DImm.isInd, dimmBits, dimmModBits]
  | imm n =>
    cases f.r <;> cases h : isIndAddr f.d <;>
      simp [DImm.wf, dimmIsImm, DImm.isInd, dimmBits, dimmModBits, modOf] <;>
      grind

/-! ### Operand forms -/

theorem map_eq_ok_iff {α : Type} {x : Except DecodeError α} {g : α → Instr} {i : Instr} :
    x.map g = .ok i ↔ ∃ a, x = .ok a ∧ g a = i := by
  cases x <;> simp [Except.map]

/-- What an operand form reads: `dx` from the D side and `sx` from the S side, each the only operand that
its part of the word (`P`, `Q`) and its modifier stand for, and the condition. -/
theorem readOperands_eq_ok_iff {α β : Type} {f : Fields} {dx : α} {sx : β} {dInd : α → Bool}
    {sInd : β → Bool} {dMod : α → BitVec 2} {sMod : β → BitVec 2} {P : α → Prop} {Q : β → Prop}
    (hd : ∀ x, dx = x ↔ P x ∧ dMod x = modOf (dInd x) (condHigh f.cond))
    (hs : ∀ x, sx = x ↔ Q x ∧ sMod x = modOf (sInd x) (condLow f.cond))
    (dDirect : ∀ x, dInd x = false → dMod x = 0#2) (sDirect : ∀ x, sInd x = false → sMod x = 0#2)
    {k : Cond → α → β → Instr} {i : Instr} :
    (condOf f (dInd dx) (sInd sx)).map (fun cond => k cond dx sx) = .ok i ↔
      ∃ cond d s, P d ∧ Q s ∧ condOk cond (dInd d || sInd s) = true ∧
        f.cond = condBits cond (dInd d || sInd s) (dMod d) (sMod s) ∧ k cond d s = i := by
  rw [map_eq_ok_iff]
  constructor
  · rintro ⟨cond, hc, rfl⟩
    obtain ⟨hP, dm⟩ := (hd dx).1 rfl
    obtain ⟨hQ, sm⟩ := (hs sx).1 rfl
    obtain ⟨ok, cccc⟩ := condOf_eq_ok_iff.1 hc
    exact ⟨cond, dx, sx, hP, hQ, ok, by rwa [dm, sm], rfl⟩
  · rintro ⟨cond, d, s, hP, hQ, ok, cccc, rfl⟩
    obtain ⟨dm, sm⟩ := modOf_condBits cccc (dDirect d) (sDirect s)
    obtain rfl := (hd d).2 ⟨hP, dm⟩
    obtain rfl := (hs s).2 ⟨hQ, sm⟩
    exact ⟨cond, condOf_eq_ok_iff.2 ⟨ok, by rwa [← dm, ← sm]⟩, rfl⟩

section
variable {f : Fields} {i : Instr}

/-- A form with the one operand `dx`, which lies on the D side. -/
theorem readOperand_eq_ok_iff {α : Type} {dx : α} {dInd : α → Bool} {dMod : α → BitVec 2} {P : α → Prop}
    (hd : ∀ x, dx = x ↔ P x ∧ dMod x = modOf (dInd x) (condHigh f.cond))
    (dDirect : ∀ x, dInd x = false → dMod x = 0#2) {k : Cond → α → Instr} :
    (condOf f (dInd dx) false).map (fun cond => k cond dx) = .ok i ↔
      ∃ cond d, P d ∧ condOk cond (dInd d) = true ∧
        f.cond = condBits cond (dInd d) (dMod d) 0#2 ∧ k cond d = i := by
  refine (readOperands_eq_ok_iff (sx := ()) (sInd := fun _ => false) (sMod := fun _ => 0#2)
    (Q := fun _ => True) (k := fun cond d _ => k cond d) hd (fun _ => by simp [modOf]) dDirect
    fun _ _ => rfl).trans ?_
  simp

theorem withD_eq_ok_iff {k : Cond → Reg → Instr} :
    withD f k = .ok i ↔ ∃ cond d, (d.wf && condOk cond d.isInd) = true ∧
      f = { f with cond := condBits cond d.isInd (modBits d) 0#2, d := regBits d } ∧ k cond d = i := by
  refine (readOperand_eq_ok_iff (fun _ => dOperand_eq_iff) fun _ => modBits_direct).trans ?_
  refine exists_congr fun cond => exists_congr fun d => ?_
  cases f
  simp only [Bool.and_eq_true, Fields.mk.injEq]
  tauto

theorem withDS_eq_ok_iff {k : Cond → Reg → Src → Instr} :
    withDS f k = .ok i ↔ ∃ cond d s, (d.wf && s.wf && condOk cond (d.isInd || s.isInd)) = true ∧
      f = fieldsDS f.op f.z f.c f.r cond d s ∧ k cond d s = i := by
  refine (readOperands_eq_ok_iff (fun _ => dOperand_eq_iff) (fun _ => srcOperand_eq_iff)
    (fun _ => modBits_direct) fun _ => srcModBits_direct).trans ?_
  refine exists_congr fun cond => exists_congr fun d => exists_congr fun s => ?_
  cases f
  simp only [Bool.and_eq_true, fieldsDS, Fields.mk.injEq]
  tauto

theorem withDD_eq_ok_iff {k : Cond → Reg → Reg → Instr} :
    withDD f k = .ok i ↔ ∃ cond d s, (d.wf && s.wf && condOk cond (d.isInd || s.isInd)) = true ∧
      f = { f with cond := condBits cond (d.isInd || s.isInd) (modBits d) (modBits s)
                   d := regBits d, s := regBits s } ∧ k cond d s = i := by
  refine (readOperands_eq_ok_iff (fun _ => dOperand_eq_iff) (fun _ => sOperand_eq_iff)
    (fun _ => modBits_direct) fun _ => modBits_direct).trans ?_
  refine exists_congr fun cond => exists_congr fun d => exists_congr fun s => ?_
  cases f
  simp only [Bool.and_eq_true, Fields.mk.injEq]
  tauto

theorem withHub_eq_ok_iff {k : Cond → Reg → HubOperand → Instr} :
    withHub f k = .ok i ↔ ∃ cond d x, (d.wf && x.wf && condOk cond (d.isInd || x.isInd)) = true ∧
      f = fieldsHub f.op f.z f.c f.r cond d x ∧ k cond d x = i := by
  refine (readOperands_eq_ok_iff (fun _ => dOperand_eq_iff) (fun _ => hubOperand_eq_iff)
    (fun _ => modBits_direct) fun _ => hubModBits_direct).trans ?_
  refine exists_congr fun cond => exists_congr fun d => exists_congr fun x => ?_
  cases f
  simp only [Bool.and_eq_true, fieldsHub, Fields.mk.injEq]
  tauto

theorem withQuad_eq_ok_iff {k : Cond → HubOperand → Instr} :
    withQuad f k = .ok i ↔ ∃ cond x, (x.wf && condOk cond x.isInd) = true ∧
      f = { f with r := hubIsPtr x, cond := condBits cond x.isInd (hubModBits x) 0#2, d := hubBits x } ∧
      k cond x = i := by
  refine (readOperand_eq_ok_iff (fun _ => quadOperand_eq_iff) fun _ => hubModBits_direct).trans ?_
  refine exists_congr fun cond => exists_congr fun x => ?_
  cases f
  simp only [Bool.and_eq_true, Fields.mk.injEq]
  tauto

theorem withDImm_eq_ok_iff {k : Cond → DImm → Instr} :
    withDImm f k = .ok i ↔ ∃ cond d, (d.wf && condOk cond d.isInd) = true ∧
      f = { f with r := dimmIsImm d, cond := condBits cond d.isInd (dimmModBits d) 0#2, d := dimmBits d } ∧
      k cond d = i := by
  have read : withDImm f k = .ok i ↔ ∃ cond d, (d.wf = true ∧ f.r = dimmIsImm d ∧ f.d = dimmBits d) ∧
      condOk cond d.isInd = true ∧ f.cond = condBits cond d.isInd (dimmModBits d) 0#2 ∧ k cond d = i := by
    unfold withDImm
    cases h : dimmOperand f with
    | error e =>
      refine ⟨nofun, fun ⟨cond, d, hd, _, cccc, _⟩ => ?_⟩
      have cccc : f.cond = condBits cond (d.isInd || false) (dimmModBits d) 0#2 := by rwa [Bool.or_false]
      have mods := (modOf_condBits cccc dimmModBits_direct fun _ => rfl).1
      cases h.symm.trans (dimmOperand_eq_ok_iff.2 ⟨hd, mods⟩)
    | ok x =>
      exact readOperand_eq_ok_iff (fun d => by rw [← dimmOperand_eq_ok_iff, h, Except.ok.injEq])
        fun _ => dimmModBits_direct
  refine read.trans (exists_congr fun cond => exists_congr fun d => ?_)
  cases f
  simp only [Bool.and_eq_true, Fields.mk.injEq]
  tauto

end

end Sys2Proof
end

section
/-!
Decoding what was encoded: each instruction that has words of its own is read from the fields it is written
to.
-/
namespace Sys2Proof

/-! ### Operand forms -/

section
variable {z c r : Bool} {cond : Cond} {d x : Reg} {y : Src} {a : HubOperand} {n : DImm} {sub : BitVec 9}

theorem withD_reads (h : (d.wf && condOk cond d.isInd) = true) {k : Cond → Reg → Instr} :
    withD ⟨0x03#6, z, c, r, true, condBits cond d.isInd (modBits d) 0#2, regBits d, sub⟩ k =
      .ok (k cond d) :=
  withD_eq_ok_iff.2 ⟨cond, d, h, rfl, rfl⟩

theorem withDS_reads {op : BitVec 6} (h : (d.wf && y.wf && condOk cond (d.isInd || y.isInd)) = true)
    {k : Cond → Reg → Src → Instr} :
    withDS ⟨op, z, c, r, y.isImm, condBits cond (d.isInd || y.isInd) (modBits d) (srcModBits y),
      regBits d, srcBits y⟩ k = .ok (k cond d y) :=
  withDS_eq_ok_iff.2 ⟨cond, d, y, h, rfl, rfl⟩

theorem withDD_reads {op : BitVec 6} {i : Bool}
    (h : (d.wf && x.wf && condOk cond (d.isInd || x.isInd)) = true) {k : Cond → Reg → Reg → Instr} :
    withDD ⟨op, z, c, r, i, condBits cond (d.isInd || x.isInd) (modBits d) (modBits x),
      regBits d, regBits x⟩ k = .ok (k cond d x) :=
  withDD_eq_ok_iff.2 ⟨cond, d, x, h, rfl, rfl⟩

theorem withHub_reads {op : BitVec 6} (h : (d.wf && a.wf && condOk cond (d.isInd || a.isInd)) = true)
    {k : Cond → Reg → HubOperand → Instr} :
    withHub ⟨op, z, c, r, hubIsPtr a, condBits cond (d.isInd || a.isInd) (modBits d) (hubModBits a),
      regBits d, hubBits a⟩ k = .ok (k cond d a) :=
  withHub_eq_ok_iff.2 ⟨cond, d, a, h, rfl, rfl⟩

theorem withQuad_reads (h : (a.wf && condOk cond a.isInd) = true) {k : Cond → HubOperand → Instr} :
    withQuad ⟨0x03#6, z, c, hubIsPtr a, true, condBits cond a.isInd (hubModBits a) 0#2, hubBits a, sub⟩
      k = .ok (k cond a) :=
  withQuad_eq_ok_iff.2 ⟨cond, a, h, rfl, rfl⟩

theorem withDImm_reads (h : (n.wf && condOk cond n.isInd) = true) {k : Cond → DImm → Instr} :
    withDImm ⟨0x03#6, z, c, dimmIsImm n, true, condBits cond n.isInd (dimmModBits n) 0#2, dimmBits n, sub⟩
      k = .ok (k cond n) :=
  withDImm_eq_ok_iff.2 ⟨cond, n, h, rfl, rfl⟩

end

/-! ### Sub-opcodes that hold a number (R136, R137) -/

section
variable (k : BitVec 4) (b : BitVec 5)

theorem bitSub_top : (k ++ b : BitVec 9).getLsbD 8 = k.getLsbD 3 := by
  rw [BitVec.getLsbD_append]; rfl

theorem bitSub_op : (k ++ b : BitVec 9).extractLsb' 5 3 = k.extractLsb' 0 3 :=
  BitVec.extractLsb'_append_eq_of_le (by decide)

theorem bitSub_number : (k ++ b : BitVec 9).extractLsb' 0 5 = b := BitVec.extractLsb'_append_eq_right

theorem maskSub_top : (b ++ k : BitVec 9).getLsbD 8 = b.getLsbD 4 := by
  rw [BitVec.getLsbD_append]; rfl

theorem maskSub_class : (b ++ k : BitVec 9).extractLsb' 4 5 = b := BitVec.extractLsb'_append_eq_left

theorem maskSub_mask : (b ++ k : BitVec 9).extractLsb' 0 4 = k := BitVec.extractLsb'_append_eq_right

end

/-! ### Where the decoder goes -/

section
variable {op : BitVec 6} {z c r i : Bool} {cond : Cond} {d s : BitVec 9}

theorem decodeFields_low (h : op.extractLsb' 4 2 = 0#2) :
    decodeFields ⟨op, z, c, r, i, cond, d, s⟩ = decodeLow ⟨op, z, c, r, i, cond, d, s⟩ := by
  rw [decodeFields, h]; rfl

theorem decodeFields_logic (h : op.extractLsb' 4 2 = 1#2) :
    decodeFields ⟨op, z, c, r, i, cond, d, s⟩ = decodeLogic ⟨op, z, c, r, i, cond, d, s⟩ := by
  rw [decodeFields, h]; rfl

theorem decodeFields_sums (h : op.extractLsb' 4 2 = 2#2) :
    decodeFields ⟨op, z, c, r, i, cond, d, s⟩ = decodeSums ⟨op, z, c, r, i, cond, d, s⟩ := by
  rw [decodeFields, h]; rfl

theorem decodeFields_high (h : op.extractLsb' 4 2 = 3#2) :
    decodeFields ⟨op, z, c, r, i, cond, d, s⟩ = decodeHigh ⟨op, z, c, r, i, cond, d, s⟩ := by
  rw [decodeFields, h]; rfl

theorem decodeFields_ext :
    decodeFields ⟨0x03#6, z, c, r, true, cond, d, s⟩ = decodeExt ⟨0x03#6, z, c, r, true, cond, d, s⟩ := by
  rw [decodeFields_low rfl, decodeLow]; rfl

theorem decodeExt_bit (h8 : s.getLsbD 8 = true) :
    decodeExt ⟨op, z, c, r, i, cond, d, s⟩ = decodeExtBit ⟨op, z, c, r, i, cond, d, s⟩ := if_pos h8

theorem decodeExt_control (h8 : s.getLsbD 8 = false) (h : s.extractLsb' 4 5 = 0x00#5) :
    decodeExt ⟨op, z, c, r, i, cond, d, s⟩ = decodeExtControl ⟨op, z, c, r, i, cond, d, s⟩ := by
  rw [decodeExt, h8, h]; rfl

theorem decodeExt_stack (h8 : s.getLsbD 8 = false) (h : s.extractLsb' 4 5 = 0x01#5) :
    decodeExt ⟨op, z, c, r, i, cond, d, s⟩ = decodeExtStack ⟨op, z, c, r, i, cond, d, s⟩ := by
  rw [decodeExt, h8, h]; rfl

theorem decodeExt_bits (h8 : s.getLsbD 8 = false)
    (h : s.extractLsb' 4 5 = 0x02#5 ∨ s.extractLsb' 4 5 = 0x03#5) :
    decodeExt ⟨op, z, c, r, i, cond, d, s⟩ = decodeExtBits ⟨op, z, c, r, i, cond, d, s⟩ := by
  rcases h with h | h <;> rw [decodeExt, h8, h] <;> rfl

theorem decodeExt_jmptask (h8 : s.getLsbD 8 = false) (h : s.extractLsb' 4 5 = 0x09#5) :
    decodeExt ⟨op, z, c, r, i, cond, d, s⟩ =
      need (!z && !c) .noRow (withDImm ⟨op, z, c, r, i, cond, d, s⟩
        fun cond d => .jmptask ⟨cond, d, s.extractLsb' 0 4⟩) := by
  rw [decodeExt, h8, h]; rfl

theorem decodeExt_push (h8 : s.getLsbD 8 = false) (h : s.extractLsb' 4 5 = 0x0A#5) :
    decodeExt ⟨op, z, c, r, i, cond, d, s⟩ = decodeExtPush ⟨op, z, c, r, i, cond, d, s⟩ := by
  rw [decodeExt, h8, h]; rfl

theorem decodeExt_ptr (h8 : s.getLsbD 8 = false) (h : s.extractLsb' 4 5 = 0x0B#5) :
    decodeExt ⟨op, z, c, r, i, cond, d, s⟩ = decodeExtPtr ⟨op, z, c, r, i, cond, d, s⟩ := by
  rw [decodeExt, h8, h]; rfl

theorem decodeExt_pins (h8 : s.getLsbD 8 = false)
    (h : s.extractLsb' 4 5 = 0x0C#5 ∨ s.extractLsb' 4 5 = 0x0D#5) :
    decodeExt ⟨op, z, c, r, i, cond, d, s⟩ = decodeExtPins ⟨op, z, c, r, i, cond, d, s⟩ := by
  rcases h with h | h <;> rw [decodeExt, h8, h] <;> rfl

theorem decodeExt_devices (h8 : s.getLsbD 8 = false)
    (h : s.extractLsb' 4 5 = 0x0E#5 ∨ s.extractLsb' 4 5 = 0x0F#5) :
    decodeExt ⟨op, z, c, r, i, cond, d, s⟩ = decodeExtDevices ⟨op, z, c, r, i, cond, d, s⟩ := by
  rcases h with h | h <;> rw [decodeExt, h8, h] <;> rfl

end

/-- Outside the selectors of SETINDx and FIXINDx (R135). -/
theorem not_selector {o : AluOps} (h : o.hasEffectOrImm = true) :
    (!o.z && !o.c && !o.r && !o.s.isImm) = false := by
  simp only [← Bool.not_or]
  exact congrArg not h

/-! ### Instructions -/

/-- The decoder reads the instruction from the fields it is written to. -/
def Rereads (i : Instr) : Prop := ∃ f, fieldsFor i = some f ∧ decodeFields f = .ok i

section
variable {j : Instr} {op : BitVec 6} {z c r i : Bool} {cond : Cond} {d s : BitVec 9}
  {x : Except DecodeError Instr}

theorem rereads (hj : fieldsFor j = some ⟨op, z, c, r, i, cond, d, s⟩)
    (h : decodeFields ⟨op, z, c, r, i, cond, d, s⟩ = x) (hx : x = .ok j) : Rereads j :=
  ⟨_, hj, h.trans hx⟩

theorem rereads_ext (hj : fieldsFor j = some ⟨0x03#6, z, c, r, true, cond, d, s⟩)
    (h : decodeExt ⟨0x03#6, z, c, r, true, cond, d, s⟩ = x) (hx : x = .ok j) : Rereads j :=
  ⟨_, hj, decodeFields_ext.trans (h.trans hx)⟩

end

theorem rereads_of_wellFormed {i : Instr} (h : i.wellFormed = true) (own : hasOwnWords i = true) :
    Rereads i := by
  cases i with
  | wrbyte o | wrword o | wrlong o | rdbyte o | rdword o | rdlong o | rdbytec o | rdwordc o | rdlongc o =>
    exact rereads rfl (decodeFields_low rfl) (by simp [decodeLow, withHub_reads h])
  | coginit o => exact rereads rfl (decodeFields_low rfl) (by simp [decodeLow, withDD_reads h])
  | setacca o | setaccb o | maca o | macb o | mul o | scl o | enc o | jmpret o | ror o | rol o | shr o
  | shl o | rcr o | rcl o | sar o | rev o =>
    exact rereads rfl (decodeFields_low rfl) (by simp [decodeLow, need, withDS_reads h])
  | mins o | maxs o | min o | max o | movs o | movd o | movi o | jmpretd o | and o | andn o | or o | xor o
  | muxc o | muxnc o | muxz o | muxnz o =>
    exact rereads rfl (decodeFields_logic rfl) (by simp [decodeLogic, need, withDS_reads h])
  | add o | sub o | addabs o | subabs o | sumc o | sumnc o | sumz o | sumnz o | mov o | neg o | abs o
  | absneg o | negc o | negnc o | negz o | negnz o =>
    exact rereads rfl (decodeFields_sums rfl) (by unfold decodeSums; exact withDS_reads h)
  | cmps o | cmpsx o | addx o | subx o | adds o | subs o | addsx o | subsx o | incmod o | decmod o | ijz o
  | ijzd o | ijnz o | ijnzd o | djz o | djzd o | djnz o | djnzd o | tjz o | tjzd o | tjnz o | tjnzd o
  | cfgpins o | waitvid o | waitcnt o | waitpeq o | waitpne o =>
    exact rereads rfl (decodeFields_high rfl) (by simp [decodeHigh, need, withDS_reads h])
  | subr o | cmpsub o =>
    obtain ⟨wf, effect⟩ := Bool.and_eq_true_iff.1 h
    refine rereads rfl (decodeFields_high rfl) ?_
    simp only [decodeHigh, not_selector effect, Bool.false_eq_true, if_false, withDS_reads wf]
  | setindaAddr o | setindaDelta o | setindbAddr o | setindbDelta o | setindsAddrAddr o
  | setindsAddrDelta o | setindsDeltaAddr o | setindsDeltaDelta o | fixinda o | fixindb o | fixinds o =>
    exact rereads rfl (decodeFields_high rfl) rfl
  | clkset o | cogid o | cogstop o | locknew o | lockret o | lockset o | lockclr o | sndser o | rcvser o
  | pushzc o | popzc o | subcnt o | getcnt o | getacca o | getaccb o =>
    exact rereads_ext rfl (decodeExt_control rfl rfl) (by simp [decodeExtControl, need, withD_reads h])
  | cachex o | clracca o | clraccb o | clraccs o | fitacca o | fitaccb o | fitaccs o =>
    exact rereads_ext rfl (decodeExt_control rfl rfl) (by simp [decodeExtControl, need])
  | getlfsr o | gettops o | getptra o | getptrb o | getpix o | getspd o | getspa o | getspb o | popar o
  | popbr o | popa o | popb o =>
    exact rereads_ext rfl (decodeExt_stack rfl rfl) (by simp [decodeExtStack, need, withD_reads h])
  | chkspd o | chkspa o | chkspb o | reta o | retb o | retad o | retbd o =>
    exact rereads_ext rfl (decodeExt_stack rfl rfl) rfl
  | decod5 o | decod4 o | decod3 o | decod2 o | blmask o | not o | onecnt o | zercnt o | incpat o
  | decpat o | bingry o | grybin o | mergew o | splitw o | seussf o | seussr o =>
    exact rereads_ext rfl (decodeExt_bits rfl (.inl rfl)) (by simp [decodeExtBits, need, withD_reads h])
  | getphsa o | getphza o | getcosa o | getsina o | getphsb o | getphzb o | getcosb o | getsinb o =>
    exact rereads_ext rfl (decodeExt_bits rfl (.inr rfl)) (by simp [decodeExtBits, need, withD_reads h])
  | jmptask o =>
    refine rereads_ext rfl (decodeExt_jmptask (maskSub_top _ _) (maskSub_class _ _)) ?_
    rw [maskSub_mask]
    exact withDImm_reads h
  | nopx o | setzc o | setspa o | setspb o | addspa o | addspb o | subspa o | subspb o | pushar o
  | pushbr o | pusha o | pushb o | calla o | callb o | callad o | callbd o =>
    exact rereads_ext rfl (decodeExt_push rfl rfl) (by unfold decodeExtPush; exact withDImm_reads h)
  | wrquad o | rdquad o | rdquadc o =>
    exact rereads_ext rfl (decodeExt_ptr rfl rfl) (by simp [decodeExtPtr, withQuad_reads h])
  | setptra o | setptrb o | addptra o | addptrb o | subptra o | subptrb o | setpix o | setpixu o
  | setpixv o | setpixz o | setpixa o | setpixr o | setpixg o | setpixb o =>
    exact rereads_ext rfl (decodeExt_ptr rfl rfl) (by unfold decodeExtPtr; exact withDImm_reads h)
  | settask o | cfgdac0 o | cfgdac1 o | cfgdac2 o | cfgdac3 o =>
    exact rereads_ext rfl (decodeExt_pins rfl (.inl rfl)) (by unfold decodeExtPins; exact withDImm_reads h)
  | setdac0 o | setdac1 o | setdac2 o | setdac3 o | cfgdacs o | setdacs o | getp o | getpn o | offp o
  | notp o | clrp o | setp o | setpc o | setpnc o | setpz o | setpnz o =>
    exact rereads_ext rfl (decodeExt_pins rfl (.inr rfl)) (by unfold decodeExtPins; exact withDImm_reads h)
  | setmap o | setquad o | setquaz o | setport o | setpora o | setporb o | setporc o | setpord o
  | setxch o | setxfr o | setser o | setskip o | setvid o | setvidy o | setvidi o | setvidq o =>
    exact rereads_ext rfl (decodeExt_devices rfl (.inl rfl)) (by
      unfold decodeExtDevices; exact withDImm_reads h)
  | setctra o | setwava o | setfrqa o | setphsa o | addphsa o | subphsa o | setctrb o | setwavb o | setfrqb o
  | setphsb o | addphsb o | subphsb o =>
    exact rereads_ext rfl (decodeExt_devices rfl (.inr rfl)) (by
      unfold decodeExtDevices; exact withDImm_reads h)
  | synctra o | capctra o | synctrb o | capctrb o =>
    exact rereads_ext rfl (decodeExt_devices rfl (.inr rfl)) rfl
  | isob o | notb o | clrb o | setb o | setbc o | setbnc o | setbz o | setbnz o =>
    refine rereads_ext rfl (decodeExt_bit (bitSub_top _ _)) ?_
    simp [decodeExtBit, need, withD_reads h, bitSub_op, bitSub_number]
  | _ => cases own

end Sys2Proof
end

section
/-!
Every word decodes to what was encoded, and the words of the aliases of R156 mean what the aliases do.
-/
namespace Sys2Proof.Machine

theorem decode_encode {i : Instr} (h : i.wellFormed = true) (own : hasOwnWords i = true) :
    ∃ w, encode i = some w ∧ decode w = .ok i := by
  obtain ⟨f, hf, hd⟩ := rereads_of_wellFormed h own
  exact ⟨wordOf f, by rw [encode, hf]; rfl, by rw [decode, fieldsOf_wordOf, hd]⟩

/-- The word of `i` decodes to an instruction that does what `i` does. -/
def MeansItself (i : Instr) : Prop :=
  ∀ w, encode i = some w → ∃ j, decode w = .ok j ∧ ∀ s, exec j s = exec i s

/-- `i` has no words of its own; it stands for `j` and shares its word (R156). -/
theorem meansItself_of_shared {i : Instr} (j : Instr) (same : encode j = encode i)
    (h : j.wellFormed = true) (own : hasOwnWords j = true) (does : ∀ s, exec j s = exec i s) :
    MeansItself i := by
  intro w hw
  obtain ⟨v, hv, hd⟩ := decode_encode h own
  obtain rfl : v = w := Option.some.inj (hv.symm.trans (same.trans hw))
  exact ⟨j, hd, does⟩

/-- The word of NOP is a WRBYTE that never executes (R151, R565). -/
theorem exec_wrbyte_never (s : State) :
    exec (.wrbyte ⟨0#4, .dir 0#9, .reg (.dir 0#9)⟩) s = exec .nop s :=
  idle_frame (executes_eq_false rfl BitVec.getLsbD_zero)

/-- The JMPRET or JMPRETD of a CALL writes the return address; its S is a number (R567). -/
theorem call_wf {o : CallOps} (h : o.wf = true) :
    AluZOps.wf ⟨false, true, o.cond, o.d, .imm o.target⟩ = true := by
  rw [AluZOps.wf, Src.wf, Bool.and_true, Src.isInd, Bool.or_false]
  exact h

/-- Settles O58: by operand form, and for the rows without words of their own by what they stand for. -/
theorem decodeUndoesEncode : Obligations.DecodeUndoesEncode := by
  intro i h
  refine ⟨decode_encode h, fun foreign => show MeansItself i from ?_⟩
  cases i with
  | nop =>
    exact meansItself_of_shared (i := .nop) (.wrbyte ⟨0#4, .dir 0#9, .reg (.dir 0#9)⟩) rfl rfl rfl
      exec_wrbyte_never
  | jmp o =>
    exact meansItself_of_shared (.jmpret ⟨false, false, o.cond, noReg, o.s⟩) rfl h rfl fun _ => rfl
  | jmpd o =>
    exact meansItself_of_shared (.jmpretd ⟨false, false, o.cond, noReg, o.s⟩) rfl h rfl fun _ => rfl
  | call o =>
    exact meansItself_of_shared (.jmpret ⟨false, true, o.cond, o.d, .imm o.target⟩) rfl (call_wf h) rfl
      fun _ => rfl
  | calld o =>
    exact meansItself_of_shared (.jmpretd ⟨false, true, o.cond, o.d, .imm o.target⟩) rfl (call_wf h) rfl
      fun _ => rfl
  | ret o =>
    exact meansItself_of_shared (.jmpret ⟨false, false, o.cond, noReg, .imm 0#9⟩) rfl rfl rfl fun _ => rfl
  | retd o =>
    exact meansItself_of_shared (.jmpretd ⟨false, false, o.cond, noReg, .imm 0#9⟩) rfl rfl rfl fun _ => rfl
  | setindaOld o | setindbOld o | setcog o | reps o | repd o | getmull o | getmulh o | getdivq o
  | getdivr o | getsqrt o | getqx o | getqy o | getqz o | polctra o | polctrb o | polvid o | passcnt o
  | jp o | jnp o => exact fun _ hw => nomatch hw
  | _ => cases foreign

end Sys2Proof.Machine
end

section
/-!
Encoding what was decoded: each row of the decoder gives a well-formed instruction that is written to the
fields it was read from. In the proofs about one function of the decoder `h_n` is its n-th row.
-/
namespace Sys2Proof

/-- The well-formed instruction `i` has words of its own, and `f` are their fields. -/
def OwnFields (f : Fields) (i : Instr) : Prop :=
  i.wellFormed = true ∧ hasOwnWords i = true ∧ fieldsFor i = some f

/-- What is read from the fields `f` is written to them. -/
def Rewrites (f : Fields) (x : Except DecodeError Instr) : Prop := ∀ i, x = .ok i → OwnFields f i

section
variable {f : Fields}

theorem rewrites_error {e : DecodeError} : Rewrites f (.error e) := by
  intro i h
  cases h

theorem rewrites_ok {i : Instr} (h : OwnFields f i) : Rewrites f (.ok i)
  | _, rfl => h

theorem rewrites_ite {p : Prop} [Decidable p] {x y : Except DecodeError Instr} (hx : p → Rewrites f x)
    (hy : ¬ p → Rewrites f y) : Rewrites f (if p then x else y) := by
  split
  · next h => exact hx h
  · next h => exact hy h

theorem rewrites_need {b : Bool} {e : DecodeError} {x : Except DecodeError Instr}
    (h : b = true → Rewrites f x) : Rewrites f (need b e x) := rewrites_ite h fun _ => rewrites_error

theorem rewrites_withD {k : Cond → Reg → Instr}
    (own : ∀ cond d, (d.wf && condOk cond d.isInd) = true →
      OwnFields { f with cond := condBits cond d.isInd (modBits d) 0#2, d := regBits d } (k cond d)) :
    Rewrites f (withD f k) := by
  intro i h
  obtain ⟨cond, d, wf, hf, rfl⟩ := withD_eq_ok_iff.1 h
  rw [hf]
  exact own cond d wf

theorem rewrites_withDS {k : Cond → Reg → Src → Instr}
    (own : ∀ cond d s, (d.wf && s.wf && condOk cond (d.isInd || s.isInd)) = true →
      OwnFields (fieldsDS f.op f.z f.c f.r cond d s) (k cond d s)) : Rewrites f (withDS f k) := by
  intro i h
  obtain ⟨cond, d, s, wf, hf, rfl⟩ := withDS_eq_ok_iff.1 h
  rw [hf]
  exact own cond d s wf

theorem rewrites_withDD {k : Cond → Reg → Reg → Instr}
    (own : ∀ cond d s, (d.wf && s.wf && condOk cond (d.isInd || s.isInd)) = true →
      OwnFields { f with cond := condBits cond (d.isInd || s.isInd) (modBits d) (modBits s)
                         d := regBits d, s := regBits s } (k cond d s)) : Rewrites f (withDD f k) := by
  intro i h
  obtain ⟨cond, d, s, wf, hf, rfl⟩ := withDD_eq_ok_iff.1 h
  rw [hf]
  exact own cond d s wf

theorem rewrites_withHub {k : Cond → Reg → HubOperand → Instr}
    (own : ∀ cond d x, (d.wf && x.wf && condOk cond (d.isInd || x.isInd)) = true →
      OwnFields (fieldsHub f.op f.z f.c f.r cond d x) (k cond d x)) : Rewrites f (withHub f k) := by
  intro i h
  obtain ⟨cond, d, x, wf, hf, rfl⟩ := withHub_eq_ok_iff.1 h
  rw [hf]
  exact own cond d x wf

theorem rewrites_withQuad {k : Cond → HubOperand → Instr}
    (own : ∀ cond x, (x.wf && condOk cond x.isInd) = true →
      OwnFields { f with r := hubIsPtr x, cond := condBits cond x.isInd (hubModBits x) 0#2
                         d := hubBits x } (k cond x)) : Rewrites f (withQuad f k) := by
  intro i h
  obtain ⟨cond, x, wf, hf, rfl⟩ := withQuad_eq_ok_iff.1 h
  rw [hf]
  exact own cond x wf

theorem rewrites_withDImm {k : Cond → DImm → Instr}
    (own : ∀ cond d, (d.wf && condOk cond d.isInd) = true →
      OwnFields { f with r := dimmIsImm d, cond := condBits cond d.isInd (dimmModBits d) 0#2
                         d := dimmBits d } (k cond d)) : Rewrites f (withDImm f k) := by
  intro i h
  obtain ⟨cond, d, wf, hf, rfl⟩ := withDImm_eq_ok_iff.1 h
  rw [hf]
  exact own cond d wf

end

/-! ### Forms that leave flags without a value (D18) -/

section
variable {op : BitVec 6} {z c r i : Bool} {cond : Cond} {d s : BitVec 9} {e : DecodeError}

theorem rewrites_dz {k : Cond → Reg → Instr}
    (own : ∀ cond d, (d.wf && condOk cond d.isInd) = true →
      OwnFields (fieldsExt s z false r cond d) (k cond d)) :
    Rewrites ⟨0x03#6, z, c, r, true, cond, d, s⟩
      (need (!c) e (withD ⟨0x03#6, z, c, r, true, cond, d, s⟩ k)) := by
  refine rewrites_need fun effect => ?_
  obtain rfl : c = false := by simpa using effect
  exact rewrites_withD own

theorem rewrites_dn {k : Cond → DImm → Instr}
    (own : ∀ cond d, (d.wf && condOk cond d.isInd) = true →
      OwnFields (fieldsDn s false false cond d) (k cond d)) :
    Rewrites ⟨0x03#6, z, c, r, true, cond, d, s⟩
      (need (!z && !c) e (withDImm ⟨0x03#6, z, c, r, true, cond, d, s⟩ k)) := by
  refine rewrites_need fun effects => ?_
  obtain ⟨rfl, rfl⟩ : z = false ∧ c = false := by simpa using effects
  exact rewrites_withDImm own

theorem rewrites_dsz {k : Cond → Reg → Src → Instr}
    (own : ∀ cond d s, (d.wf && s.wf && condOk cond (d.isInd || s.isInd)) = true →
      OwnFields (fieldsDS op z false r cond d s) (k cond d s)) :
    Rewrites ⟨op, z, c, r, i, cond, d, s⟩ (need (!c) e (withDS ⟨op, z, c, r, i, cond, d, s⟩ k)) := by
  refine rewrites_need fun effect => ?_
  obtain rfl : c = false := by simpa using effect
  exact rewrites_withDS own

end

/-! ### The extended set (R138) -/

section
variable {z c r : Bool} {cond : Cond} {d s : BitVec 9}

theorem rewrites_extControl : Rewrites ⟨0x03#6, z, c, r, true, cond, d, s⟩
    (decodeExtControl ⟨0x03#6, z, c, r, true, cond, d, s⟩) := by
  unfold decodeExtControl
  dsimp only
  split
  case h_8 =>
    refine rewrites_ite (fun fixed => ?_) fun _ => rewrites_ite (fun fixed => ?_) fun _ =>
      rewrites_ite (fun fixed => ?_) fun _ => rewrites_ite (fun fixed => ?_) fun _ =>
      rewrites_ite (fun fixed => ?_) fun _ => rewrites_ite (fun fixed => ?_) fun _ =>
      rewrites_need fun fixed => ?_
    case refine_1 =>
      simp_all only [Bool.and_eq_true, Bool.not_eq_true', beq_iff_eq]
      exact rewrites_ok ⟨rfl, rfl, rfl⟩
    all_goals
      refine rewrites_need fun flags => ?_
      simp_all only [Bool.and_eq_true, Bool.not_eq_true', beq_iff_eq]
      exact rewrites_ok ⟨rfl, rfl, rfl⟩
  case h_9 =>
    refine rewrites_ite (fun flag => rewrites_need fun effect => ?_) fun _ => rewrites_need fun flag => ?_
    all_goals
      simp_all only [Bool.not_eq_true']
      exact rewrites_withD fun _ _ h => ⟨h, rfl, rfl⟩
  case h_10 | h_11 => exact rewrites_withD fun _ _ h => ⟨h, rfl, rfl⟩
  case h_16 => exact rewrites_error
  all_goals
    refine rewrites_need fun flags => ?_
    simp_all only [Bool.and_eq_true, Bool.not_eq_true']
    exact rewrites_withD fun _ _ h => ⟨h, rfl, rfl⟩

theorem rewrites_extStack : Rewrites ⟨0x03#6, z, c, r, true, cond, d, s⟩
    (decodeExtStack ⟨0x03#6, z, c, r, true, cond, d, s⟩) := by
  unfold decodeExtStack
  dsimp only
  split
  case h_3 | h_4 => exact rewrites_withD fun _ _ h => ⟨h, rfl, rfl⟩
  case h_6 | h_7 | h_8 =>
    refine rewrites_ite (fun fixed => ?_) fun _ => rewrites_need fun flag => ?_
    · simp_all only [Bool.and_eq_true, Bool.not_eq_true', beq_iff_eq]
      exact rewrites_ok ⟨rfl, rfl, rfl⟩
    · simp_all only
      exact rewrites_withD fun _ _ h => ⟨h, rfl, rfl⟩
  case h_13 | h_14 | h_15 | h_16 =>
    refine rewrites_need fun fixed => ?_
    simp_all only [Bool.and_eq_true, Bool.not_eq_true', beq_iff_eq]
    exact rewrites_ok ⟨rfl, rfl, rfl⟩
  case h_17 => exact rewrites_error
  all_goals
    refine rewrites_need fun flags => ?_
    simp_all only [Bool.and_eq_true, Bool.not_eq_true']
    exact rewrites_withD fun _ _ h => ⟨h, rfl, rfl⟩

theorem rewrites_extBits : Rewrites ⟨0x03#6, z, c, r, true, cond, d, s⟩
    (decodeExtBits ⟨0x03#6, z, c, r, true, cond, d, s⟩) := by
  unfold decodeExtBits
  dsimp only
  split
  case h_25 => exact rewrites_error
  all_goals exact rewrites_dz fun _ _ h => ⟨h, rfl, rfl⟩

theorem rewrites_jmptask (h : s.extractLsb' 4 5 = 0x09#5) : Rewrites ⟨0x03#6, z, c, r, true, cond, d, s⟩
    (need (!z && !c) .noRow (withDImm ⟨0x03#6, z, c, r, true, cond, d, s⟩
      fun cond d => .jmptask ⟨cond, d, s.extractLsb' 0 4⟩)) := by
  have sub : 0x09#5 ++ s.extractLsb' 0 4 = s := h ▸ BitVec.extractLsb'_append_extractLsb'
  exact rewrites_dn fun cond d h =>
    ⟨h, rfl, congrArg (fun sub => some (fieldsDn sub false false cond d)) sub⟩

theorem rewrites_extPush : Rewrites ⟨0x03#6, z, c, r, true, cond, d, s⟩
    (decodeExtPush ⟨0x03#6, z, c, r, true, cond, d, s⟩) := by
  unfold decodeExtPush
  dsimp only
  split
  case h_2 => exact rewrites_withDImm fun _ _ h => ⟨h, rfl, rfl⟩
  case h_17 => exact rewrites_error
  all_goals exact rewrites_dn fun _ _ h => ⟨h, rfl, rfl⟩

theorem rewrites_extPtr : Rewrites ⟨0x03#6, z, c, r, true, cond, d, s⟩
    (decodeExtPtr ⟨0x03#6, z, c, r, true, cond, d, s⟩) := by
  unfold decodeExtPtr
  dsimp only
  split
  case h_1 =>
    refine rewrites_need fun flags => ?_
    simp_all only [Bool.and_eq_true, Bool.not_eq_true']
    exact rewrites_withQuad fun _ _ h => ⟨h, rfl, rfl⟩
  case h_2 =>
    refine rewrites_ite (fun flags => ?_) fun _ => rewrites_need fun flags => ?_
    all_goals
      simp_all only [Bool.and_eq_true, Bool.not_eq_true']
      exact rewrites_withQuad fun _ _ h => ⟨h, rfl, rfl⟩
  case h_17 => exact rewrites_error
  all_goals exact rewrites_dn fun _ _ h => ⟨h, rfl, rfl⟩

theorem rewrites_extPins : Rewrites ⟨0x03#6, z, c, r, true, cond, d, s⟩
    (decodeExtPins ⟨0x03#6, z, c, r, true, cond, d, s⟩) := by
  unfold decodeExtPins
  dsimp only
  split
  case h_12 | h_13 => exact rewrites_withDImm fun _ _ h => ⟨h, rfl, rfl⟩
  case h_22 => exact rewrites_error
  all_goals exact rewrites_dn fun _ _ h => ⟨h, rfl, rfl⟩

theorem rewrites_extDevices : Rewrites ⟨0x03#6, z, c, r, true, cond, d, s⟩
    (decodeExtDevices ⟨0x03#6, z, c, r, true, cond, d, s⟩) := by
  unfold decodeExtDevices
  dsimp only
  split
  case h_2 =>
    refine rewrites_ite (fun flags => ?_) fun _ => rewrites_need fun flags => ?_
    all_goals
      simp_all only [Bool.and_eq_true, Bool.not_eq_true']
      exact rewrites_withDImm fun _ _ h => ⟨h, rfl, rfl⟩
  case h_22 | h_23 | h_30 | h_31 =>
    refine rewrites_need fun flags => ?_
    simp_all only [Bool.and_eq_true, Bool.not_eq_true']
    exact rewrites_ok ⟨rfl, rfl, rfl⟩
  case h_32 => exact rewrites_error
  all_goals exact rewrites_dn fun _ _ h => ⟨h, rfl, rfl⟩

/-- A row of the bit instructions `1ooobbbbb` (R136). -/
theorem rewrites_bit {k : BitVec 3} {mk : DBitOps → Instr} (h8 : s.getLsbD 8 = true)
    (h : s.extractLsb' 5 3 = k)
    (own : ∀ o : DBitOps, o.wf = true →
      OwnFields (fieldsExt (1#1 ++ k ++ o.b) o.z false o.r o.cond o.d) (mk o)) :
    Rewrites ⟨0x03#6, z, c, r, true, cond, d, s⟩
      (need (!c) .effectBit (withD ⟨0x03#6, z, c, r, true, cond, d, s⟩
        fun cond d => mk ⟨z, r, cond, d, s.extractLsb' 0 5⟩)) := by
  have sub : 1#1 ++ k ++ s.extractLsb' 0 5 = s := by
    have top : 1#1 = s.extractLsb' 8 1 := by rw [← ofBool_getLsbD, h8]; rfl
    simp only [top, ← h, BitVec.extractLsb'_append_extractLsb'_eq_extractLsb', BitVec.extractLsb'_eq_self]
  refine rewrites_dz fun cond d wf => ?_
  have fields := own ⟨z, r, cond, d, s.extractLsb' 0 5⟩ wf
  rwa [sub] at fields

theorem rewrites_extBit (h8 : s.getLsbD 8 = true) : Rewrites ⟨0x03#6, z, c, r, true, cond, d, s⟩
    (decodeExtBit ⟨0x03#6, z, c, r, true, cond, d, s⟩) := by
  unfold decodeExtBit
  dsimp only
  split
  all_goals
    next h => exact rewrites_bit h8 h fun _ wf => ⟨wf, rfl, rfl⟩

theorem rewrites_ext : Rewrites ⟨0x03#6, z, c, r, true, cond, d, s⟩
    (decodeExt ⟨0x03#6, z, c, r, true, cond, d, s⟩) := by
  unfold decodeExt
  refine rewrites_ite rewrites_extBit fun _ => ?_
  dsimp only
  split
  case h_1 => exact rewrites_extControl
  case h_2 => exact rewrites_extStack
  case h_3 | h_4 => exact rewrites_extBits
  case h_5 h => exact rewrites_jmptask h
  case h_6 => exact rewrites_extPush
  case h_7 => exact rewrites_extPtr
  case h_8 | h_9 => exact rewrites_extPins
  case h_10 | h_11 => exact rewrites_extDevices
  case h_12 => exact rewrites_error

end

/-! ### The indirect-register setup (R135) -/

section
variable {cond : Cond} {d s : BitVec 9}

theorem rewrites_setind : Rewrites ⟨0x38#6, false, false, false, false, cond, d, s⟩
    (decodeSetind ⟨0x38#6, false, false, false, false, cond, d, s⟩) := by
  unfold decodeSetind
  dsimp only
  split
  case h_1 | h_2 | h_3 | h_4 =>
    refine rewrites_need fun fixed => ?_
    simp_all only [beq_iff_eq]
    exact rewrites_ok ⟨rfl, rfl, rfl⟩
  case h_9 => exact rewrites_error
  all_goals exact rewrites_ok ⟨rfl, rfl, rfl⟩

theorem rewrites_fixind : Rewrites ⟨0x39#6, false, false, false, false, cond, d, s⟩
    (decodeFixind ⟨0x39#6, false, false, false, false, cond, d, s⟩) := by
  unfold decodeFixind
  dsimp only
  split
  case h_4 => exact rewrites_error
  all_goals exact rewrites_ok ⟨rfl, rfl, rfl⟩

end

/-! ### The opcodes (R123) -/

section
variable {op : BitVec 6} {z c r i : Bool} {cond : Cond} {d s : BitVec 9}

theorem rewrites_low : Rewrites ⟨op, z, c, r, i, cond, d, s⟩ (decodeLow ⟨op, z, c, r, i, cond, d, s⟩) := by
  unfold decodeLow
  dsimp only
  split
  case h_1 | h_2 | h_3 =>
    refine rewrites_ite (fun flags => ?_) fun _ => rewrites_ite (fun flags => ?_) fun _ =>
      rewrites_need fun flags => ?_
    all_goals
      simp_all only [Bool.and_eq_true, Bool.not_eq_true']
      exact rewrites_withHub fun _ _ _ h => ⟨h, rfl, rfl⟩
  case h_4 =>
    refine rewrites_ite (fun flag => ?_) fun flag => ?_
    · subst flag
      exact rewrites_ext
    · simp_all only [Bool.not_eq_true]
      exact rewrites_withDD fun _ _ _ h => ⟨h, rfl, rfl⟩
  case h_5 =>
    refine rewrites_ite (fun flags => ?_) fun _ => rewrites_ite (fun flags => ?_) fun _ =>
      rewrites_ite (fun flags => ?_) fun _ => rewrites_ite (fun flags => ?_) fun _ =>
      rewrites_need fun flag => rewrites_need fun effect => ?_
    all_goals
      simp_all only [Bool.and_eq_true, Bool.not_eq_true']
      exact rewrites_withDS fun _ _ _ h => ⟨h, rfl, rfl⟩
  case h_6 =>
    refine rewrites_need fun flag => rewrites_need fun effect => ?_
    simp_all only [Bool.not_eq_true']
    exact rewrites_withDS fun _ _ _ h => ⟨h, rfl, rfl⟩
  case h_7 | h_8 => exact rewrites_dsz fun _ _ _ h => ⟨h, rfl, rfl⟩
  case h_17 => exact rewrites_error
  all_goals exact rewrites_withDS fun _ _ _ h => ⟨h, rfl, rfl⟩

theorem rewrites_logic :
    Rewrites ⟨op, z, c, r, i, cond, d, s⟩ (decodeLogic ⟨op, z, c, r, i, cond, d, s⟩) := by
  unfold decodeLogic
  dsimp only
  split
  case h_5 | h_6 | h_7 | h_8 => exact rewrites_dsz fun _ _ _ h => ⟨h, rfl, rfl⟩
  case h_17 => exact rewrites_error
  all_goals exact rewrites_withDS fun _ _ _ h => ⟨h, rfl, rfl⟩

theorem rewrites_sums :
    Rewrites ⟨op, z, c, r, i, cond, d, s⟩ (decodeSums ⟨op, z, c, r, i, cond, d, s⟩) := by
  unfold decodeSums
  dsimp only
  split
  case h_17 => exact rewrites_error
  all_goals exact rewrites_withDS fun _ _ _ h => ⟨h, rfl, rfl⟩

/-- SUBR and CMPSUB share their opcodes with SETINDx and FIXINDx, whose words set no effect bit and have no
immediate. -/
theorem rewrites_withDS_of_effect {k : AluOps → Instr}
    (flags : ¬ (!z && !c && !r && !i) = true)
    (own : ∀ o : AluOps, (o.wf && o.hasEffectOrImm) = true →
      OwnFields (fieldsDS op o.z o.c o.r o.cond o.d o.s) (k o)) :
    Rewrites ⟨op, z, c, r, i, cond, d, s⟩
      (withDS ⟨op, z, c, r, i, cond, d, s⟩ fun cond d s => k ⟨z, c, r, cond, d, s⟩) := by
  intro j h
  obtain ⟨cond, d, s, wf, hf, rfl⟩ := withDS_eq_ok_iff.1 h
  obtain rfl : i = s.isImm := congrArg Fields.i hf
  have effect : (z || c || r || s.isImm) = true := by
    rwa [← Bool.not_or, ← Bool.not_or, ← Bool.not_or, Bool.not_eq_true', Bool.not_eq_false] at flags
  rw [hf]
  exact own ⟨z, c, r, cond, d, s⟩ (Bool.and_eq_true_iff.2 ⟨wf, effect⟩)

theorem rewrites_high :
    Rewrites ⟨op, z, c, r, i, cond, d, s⟩ (decodeHigh ⟨op, z, c, r, i, cond, d, s⟩) := by
  unfold decodeHigh
  dsimp only
  split
  case h_9 =>
    refine rewrites_ite (fun flags => ?_) fun flags => ?_
    · simp_all only [Bool.and_eq_true, Bool.not_eq_true']
      exact rewrites_setind
    · exact rewrites_withDS_of_effect flags fun _ h => ⟨h, rfl, rfl⟩
  case h_10 =>
    refine rewrites_ite (fun flags => ?_) fun flags => ?_
    · simp_all only [Bool.and_eq_true, Bool.not_eq_true']
      exact rewrites_fixind
    · exact rewrites_withDS_of_effect flags fun _ h => ⟨h, rfl, rfl⟩
  case h_11 | h_12 => exact rewrites_dsz fun _ _ _ h => ⟨h, rfl, rfl⟩
  case h_13 | h_14 =>
    refine rewrites_ite (fun flags => ?_) fun _ => rewrites_ite (fun flags => ?_) fun _ =>
      rewrites_ite (fun flags => ?_) fun _ => rewrites_need fun flags => ?_
    all_goals
      simp_all only [Bool.and_eq_true, Bool.not_eq_true']
      exact rewrites_withDS fun _ _ _ h => ⟨h, rfl, rfl⟩
  case h_15 =>
    refine rewrites_ite (fun flags => ?_) fun _ => rewrites_ite (fun flags => ?_) fun _ =>
      rewrites_ite (fun flags => ?_) fun _ => rewrites_ite (fun flags => ?_) fun _ =>
      rewrites_ite (fun flags => ?_) fun _ => rewrites_ite (fun flags => ?_) fun _ => rewrites_error
    all_goals
      simp_all only [Bool.and_eq_true, Bool.not_eq_true']
      exact rewrites_withDS fun _ _ _ h => ⟨h, rfl, rfl⟩
  case h_16 =>
    refine rewrites_ite (fun flags => ?_) fun _ =>
      rewrites_ite (fun flags => rewrites_need fun effect => ?_) fun _ =>
      rewrites_need fun flags => rewrites_need fun effect => ?_
    all_goals
      simp_all only [Bool.and_eq_true, Bool.not_eq_true']
      exact rewrites_withDS fun _ _ _ h => ⟨h, rfl, rfl⟩
  case h_17 => exact rewrites_error
  all_goals exact rewrites_withDS fun _ _ _ h => ⟨h, rfl, rfl⟩

end

theorem rewrites_decodeFields (f : Fields) : Rewrites f (decodeFields f) := by
  unfold decodeFields
  split
  · exact rewrites_low
  · exact rewrites_logic
  · exact rewrites_sums
  · exact rewrites_high

end Sys2Proof

namespace Sys2Proof.Machine

/-- Settles O59, row by row: the operand forms give the only operands that stand in the word. -/
theorem encodeUndoesDecode : Obligations.EncodeUndoesDecode := by
  intro w i h
  obtain ⟨wf, own, fields⟩ := rewrites_decodeFields _ i h
  exact ⟨wf, own, by rw [encode, fields, Option.map_some, wordOf_fieldsOf]⟩

end Sys2Proof.Machine
end

section
/-!
PTR expressions: the pointer plus the index times the scale, modulo 2^17 (R134, R171).
-/
namespace Sys2Proof.Machine

/-- Adding the offset of a PTR expression is adding INDEX times the scale, modulo 2^17. -/
theorem add_ptrOffset (k : Nat) (e : PtrExpr) (p : HubAddress) :
    p + ptrOffset k e = BitVec.ofInt 17 ((p.toNat : Int) + e.index.toInt * 2 ^ k) := by
  have scale : BitVec.ofInt 17 (2 ^ k : Int) = BitVec.twoPow 17 k :=
    (congrArg (BitVec.ofInt 17) (Nat.cast_pow 2 k).symm).trans
      (BitVec.eq_of_toNat_eq (by rw [BitVec.ofInt_natCast, BitVec.toNat_ofNat, BitVec.toNat_twoPow]))
  rw [ptrOffset, BitVec.ofInt_add, BitVec.ofInt_mul, BitVec.ofInt_natCast, BitVec.ofNat_toNat,
    BitVec.setWidth_eq, scale, BitVec.shiftLeft_eq_mul_twoPow, BitVec.signExtend]

/-- Settles O20, by the bits of the expression. -/
theorem ptrExpressionAddresses : Obligations.PtrExpressionAddresses := by
  intro k _ inp c e x p moved
  obtain ⟨useB, upd, post, index⟩ := e
  refine ⟨?_, ?_, extractLsb'_zero 17 _, rfl⟩
  · rw [hubAddr, ptrAddr, add_ptrOffset]; rfl
  · rw [hubAfter, ptrAfter]
    cases useB <;> simp [add_ptrOffset, moved, p]

end Sys2Proof.Machine
end

section
/-!
PTRA and PTRB: GETPTRx, SETPTRx, ADDPTRx and SUBPTRx (R210 to R218).
-/
namespace Sys2Proof.Machine

theorem low17_eq (v : Word) : low17 v = BitVec.ofNat 17 v.toNat := extractLsb'_zero 17 v

/-- Bit 16 of a pointer says that it is in the upper half of its range (R211, R212). -/
theorem hubAddress_bit16 (p : HubAddress) : p.getLsbD 16 = decide (2 ^ 16 ≤ p.toNat) := by
  rw [← BitVec.msb_eq_getLsbD_last p, BitVec.msb_eq_decide]

theorem zeroExtend_beq_zero (p : HubAddress) : (p.setWidth 32 == 0#32) = decide (p = 0#17) := by
  rw [beq_eq_decide, decide_eq_decide, ← BitVec.toNat_inj, ← BitVec.toNat_inj,
    BitVec.toNat_setWidth_of_le (by decide)]
  rfl

/-- GETPTRA and GETPTRB complete; the references of the slot leave the pointer `p` (R211, R212). -/
theorem getPtr_completes {mk : DZCROps → Instr} {p : Cog → HubAddress}
    (h : ∀ o s, exec (mk o) s = getPtr o p s) (kept : ∀ d c, p (enter d noReg c) = p c)
    {o : DZCROps} {s : State} (hr : readyD false o.cond o.d s) :
    Completes (mk o) o.d noReg
      (resultEffect o.z o.c o.r (addrOf s o.d) (BitVec.ofNat 32 (p s.cog).toNat)
        (decide (p s.cog = 0#17)) (decide (2 ^ 16 ≤ (p s.cog).toNat))) s := by
  refine ⟨_, ?_, did_result (benign_id o.d noReg s.cog) o.r o.z o.c _ _ _ _⟩
  rw [h, getPtr, runD_ready hr, onCog, State.setCog_cog, State.setCog_setCog, deliver, kept,
    hubAddress_bit16, zeroExtend_beq_zero, BitVec.ofNat_toNat]
  rfl

/-- The D/#n instructions on a pointer: the operand modulo 2^17 (R213 to R218). -/
theorem pointerSet_does {mk : DnOps → Instr} {f : HubAddress → Cog → Cog}
    (h : ∀ o s, exec (mk o) s = runDn 9 o.cond o.d s fun v => onCog (f (low17 v)))
    (hb : ∀ a d (s : State), Benign (f a) d noReg s.cog) :
    DnSets mk 9 fun v => f (BitVec.ofNat 17 v.toNat) :=
  runDn_does h (fun v c => by rw [low17_eq]) fun v => hb (low17 v)

/-- Settles O21, instruction by instruction. -/
theorem pointerInstructionResults : Obligations.PointerInstructionResults := by
  refine ⟨fun o s hr => getPtr_completes exec_getptra (fun _ _ => rfl) hr,
    fun o s hr => getPtr_completes exec_getptrb (fun _ _ => rfl) hr,
    pointerSet_does (f := fun a c => { c with ptra := a }) exec_setptra ?_,
    pointerSet_does (f := fun a c => { c with ptrb := a }) exec_setptrb ?_,
    pointerSet_does (f := fun a c => { c with ptra := c.ptra + a }) exec_addptra ?_,
    pointerSet_does (f := fun a c => { c with ptrb := c.ptrb + a }) exec_addptrb ?_,
    pointerSet_does (f := fun a c => { c with ptra := c.ptra - a }) exec_subptra ?_,
    pointerSet_does (f := fun a c => { c with ptrb := c.ptrb - a }) exec_subptrb ?_⟩
  all_goals
    intro a d s
    constructor <;> rfl

end Sys2Proof.Machine
end

section
/-!
COG and clock control: COGID, COGSTOP and CLKSET (R245 to R247, R761).
-/
namespace Sys2Proof.Machine

/-! ### COGSTOP -/

theorem exec_cogstop_ready {o : D0Ops} {s : State} (h : readyD true o.cond o.d s) :
    exec (.cogstop o) s = .next (stopCog (BitVec.ofNat 3 (valueOf s o.d).toNat)
      (s.setCog (enter o.d noReg s.cog))) := by
  rw [exec_cogstop, execCogstop, runD_ready h, extractLsb'_zero]
  rfl

theorem stopCog_rd (n m : CogId) (s : State) : (stopCog n s).cogs.rd m =
    if m = n then { s.cogs.rd n with run := .idle } else s.cogs.rd m := Bank.rd_wr _ _ _ _

/-- Making another COG idle, beside what an instruction does to its own (R247). -/
theorem Did.withStop {e : Effect} {d x : Reg} {s t : State} (h : Did e d x s t) (he : e.chip = id)
    {n : CogId} (hn : n ≠ s.turn) : Did { e with chip := stopCog n } d x s (stopCog n t) := by
  have own : (stopCog n t).cog = t.cog :=
    (stopCog_rd n t.turn t).trans (if_neg (h.turn ▸ hn.symm))
  have others : ∀ m, m ≠ s.turn → t.cogs.rd m = s.cogs.rd m := fun m hm => by rw [h.others m hm, he]; rfl
  exact
    { mem := h.mem
      locks := h.locks.trans (by rw [he]; rfl)
      clk := h.clk.trans (by rw [he]; rfl)
      cnt := h.cnt
      pinCfg := h.pinCfg.trans (by rw [he]; rfl)
      inputs := h.inputs
      turn := h.turn
      tick := h.tick
      others := fun m hm => by rw [stopCog_rd, stopCog_rd, others m hm, others n hn]
      regs := own ▸ h.regs
      flow := own ▸ ⟨h.flow.others, h.flow.flagZ, h.flow.flagC, h.flow.pc, h.flow.flush, h.flow.delayed,
        h.flow.rep⟩
      inda := own ▸ h.inda
      indb := own ▸ h.indb
      rest := own ▸ h.rest }

/-! ### CLKSET -/

/-- A change of CLK beside what an instruction does to its COG (R245). -/
theorem Did.withClk {e : Effect} {d x : Reg} {s t : State} (h : Did e d x s t) (he : e.chip = id)
    (v : BitVec 9) : Did { e with chip := fun u => { u with clk := v } } d x s { t with clk := v } where
  mem := h.mem
  locks := h.locks.trans (by rw [he]; rfl)
  clk := rfl
  cnt := h.cnt
  pinCfg := h.pinCfg.trans (by rw [he]; rfl)
  inputs := h.inputs
  turn := h.turn
  tick := h.tick
  others n hn := (h.others n hn).trans (by rw [he]; rfl)
  regs := h.regs
  flow := ⟨h.flow.others, h.flow.flagZ, h.flow.flagC, h.flow.pc, h.flow.flush, h.flow.delayed, h.flow.rep⟩
  inda := h.inda
  indb := h.indb
  rest := h.rest

/-- Bits 1:0 name the source, XTAL or PLL; bits 3:2 are 0 with XI off, bits 7:4 with the PLL off (R245). -/
theorem clockSourceOff_iff (v : BitVec 9) : clockSourceOff v = true ↔
    v.toNat % 4 = 2 ∧ v.toNat / 4 % 4 = 0 ∨
      v.toNat % 4 = 3 ∧ (v.toNat / 4 % 4 = 0 ∨ v.toNat / 16 % 16 = 0) := by
  simp [clockSourceOff, ← BitVec.toNat_inj, BitVec.extractLsb'_toNat, Nat.shiftRight_eq_div_pow]

theorem resetBit_iff (v : BitVec 9) : v.getLsbD 8 = true ↔ 2 ^ 8 ≤ v.toNat := by
  rw [← BitVec.msb_eq_getLsbD_last v, BitVec.msb_eq_decide, decide_eq_true_iff]

/-- CLKSET looks at the low nine bits of D (R245). -/
theorem exec_clkset_ready {o : D0Ops} {s : State} (h : readyD true o.cond o.d s) :
    exec (.clkset o) s =
      if (BitVec.ofNat 9 (valueOf s o.d).toNat).getLsbD 8 then
        .next (chipReset (s.setCog (enter o.d noReg s.cog)))
      else if clockSourceOff (BitVec.ofNat 9 (valueOf s o.d).toNat) then .refused .clockSource
      else .next { s.setCog (enter o.d noReg s.cog) with clk := BitVec.ofNat 9 (valueOf s o.d).toNat } := by
  rw [exec_clkset, execClkset, runD_ready h, extractLsb'_zero]

theorem isIdle_chipReset (s : State) (n : CogId) : isIdle ((chipReset s).cogs.rd n) = true := by
  simp [chipReset, Bank.rd, isIdle]

/-- Settles O24, instruction by instruction, and for CLKSET by bit 8 and the source. -/
theorem cogAndClockControl : Obligations.CogAndClockControl := by
  refine ⟨fun o s hr => ?_, ?_, ?_⟩
  · refine ⟨_, ?_, did_result (benign_id o.d noReg s.cog) true false false _ _ false false⟩
    rw [exec_cogid, execCogid, runD_ready hr, onCog, State.setCog_cog, State.setCog_setCog]
    rfl
  · intro o s hr n
    have run := exec_cogstop_ready hr
    refine ⟨⟨_, run, ?_, fun m hm own => ?_, rfl, rfl, fun _ => rfl⟩, fun hn =>
      ⟨_, run, (did_other (benign_id o.d noReg s.cog)).withStop rfl hn⟩⟩
    · rw [stopCog_rd, if_pos rfl]
    · rw [stopCog_rd, if_neg hm, State.setCog_other _ _ own]
  · intro o s hr v source off
    have run := exec_clkset_ready hr
    have value : (BitVec.ofNat 9 (valueOf s o.d).toNat).toNat = v := BitVec.toNat_ofNat _ _
    have resets := resetBit_iff (BitVec.ofNat 9 (valueOf s o.d).toNat)
    have disabled := clockSourceOff_iff (BitVec.ofNat 9 (valueOf s o.d).toNat)
    rw [value] at resets disabled
    refine ⟨fun low ok => ?_, fun low bad => ?_, fun high => ?_⟩
    · have same : BitVec.ofNat 9 v = BitVec.ofNat 9 (valueOf s o.d).toNat := by
        rw [← value, BitVec.ofNat_toNat, BitVec.setWidth_eq]
      rw [if_neg (mt resets.1 (Nat.not_le.2 low)), if_neg (mt disabled.1 ok), ← same] at run
      exact ⟨_, run, (did_other (benign_id o.d noReg s.cog)).withClk rfl _⟩
    · rw [run, if_neg (mt resets.1 (Nat.not_le.2 low)), if_pos (disabled.2 bad)]
    · exact ⟨_, run.trans (if_pos (resets.2 high)), rfl, isIdle_chipReset _, (sound_chipReset _).mem⟩

end Sys2Proof.Machine
end

section
/-!
The set-up of the repeat unit, the skip pattern, the NOP count and COGSEL (R242, R452 to R455).
-/
namespace Sys2Proof.Machine

/-- Setting up the repeat unit beside what an instruction does to its COG (R454). -/
theorem Did.withRep {e : Effect} {d x : Reg} {s : State} {c : Cog} (h : Did e d x s (s.setCog c))
    (r : Rep) : Did { e with rep := some r } d x s (s.setCog { c with rep := r }) := by
  obtain ⟨mem, locks, clk, cnt, pinCfg, inputs, turn, tick, others, regs, flow, inda, indb, rest⟩ := h
  rw [State.setCog_cog] at regs flow inda indb rest
  refine ⟨mem, locks, clk, cnt, pinCfg, inputs, turn, tick, fun n hn => ?_, ?_, ?_, ?_, ?_, ?_⟩
  · rw [← others n hn, State.setCog_other _ _ hn, State.setCog_other _ _ hn]
  all_goals rw [State.setCog_cog]
  · obtain ⟨_ | w⟩ := e <;> exact ⟨regs.ram, regs.quads, regs.out, regs.dir, regs.note⟩
  · exact ⟨flow.others, flow.flagZ, flow.flagC, flow.pc, flow.flush, flow.delayed, rfl⟩
  · exact inda
  · exact indb
  · exact rest

/-- REPS and REPD complete; a count or a length of 0 is replaced by a free value (R454, R455). -/
theorem repeatWith_completes {mk : RepeatOps → Instr} {ahead : RegAddr}
    (h : ∀ o s, exec (mk o) s = repeatWith ahead o s) {o : RepeatOps} {s : State}
    (hr : readyDn o.cond o.d s) :
    Completes (mk o) (dimmReg o.d) noReg
      { rep := some ⟨if numberOf 9 s o.d = 0#32 then Config.freeRepCount s.tick else numberOf 9 s o.d,
          if o.len = 0#5 then Config.freeRepLength s.tick else o.len, s.cog.pcNow + ahead, s.cog.cur⟩ } s := by
  refine ⟨_, ?_, (did_other (benign_id (dimmReg o.d) noReg s.cog)).withRep _⟩
  rw [h, repeatWith, runDn_ready hr, onCog, State.setCog_cog, State.setCog_setCog]
  rfl

/-- Settles O42, instruction by instruction. -/
theorem repeatSkipAndIdleSetup : Obligations.RepeatSkipAndIdleSetup := by
  refine ⟨fun o s hr => ⟨_, _, repeatWith_completes exec_reps hr, fun h => if_neg h, fun h => if_neg h⟩,
    fun o s hr => ⟨_, _, repeatWith_completes exec_repd hr, fun h => if_neg h, fun h => if_neg h⟩,
    dn_does (f := fun s v c => { c with skip := v, skipTask := s.cog.cur }) (fun o s hr => ?_) ?_,
    runDn_does exec_nopx (fun _ _ => rfl) ?_,
    runDn_does exec_setcog (fun v c => by rw [extractLsb'_zero]) ?_⟩
  · rw [exec_setskip, execSetskip, runDn_ready hr, onCog, State.setCog_cog, State.setCog_setCog]
    rfl
  all_goals
    intro v d s
    constructor <;> rfl

end Sys2Proof.Machine
end

section
/-!
INDA and INDB: SETINDx and FIXINDx (R280 to R290), and the step that a reference makes (R271 to R274).
-/
namespace Sys2Proof.Machine

/-! ### SETINDx and FIXINDx -/

/-- What SETINDx and FIXINDx do: each pointer, with its limits, becomes a function of itself. -/
def movePointers (fa fb : IndPtr → IndPtr) (c : Cog) : Cog :=
  { c with inda := fa c.inda, indb := fb c.indb }

theorem benign_movePointers (fa fb : IndPtr → IndPtr) (c : Cog) :
    Benign (movePointers fa fb) noReg noReg c := by constructor <;> rfl

/-- SETINDx and FIXINDx have no condition and no reference: they complete in every state (R135). -/
theorem completes_movePointers {i : Instr} {s : State} (fa fb : IndPtr → IndPtr)
    (h : exec i s = onCog (movePointers fa fb) (skipSlot s)) :
    Completes i noReg noReg { cog := movePointers fa fb } s := by
  refine ⟨_, ?_, did_other (benign_movePointers fa fb s.cog)⟩
  rw [h, onCog, skipSlot, State.setCog_cog, State.setCog_setCog]
  rfl

/-- A delta is signed, and is added modulo 512 (R281). -/
theorem wholeRange_add (p n : RegAddr) :
    wholeRange (p + n) = ⟨BitVec.ofInt 9 ((p.toNat : Int) + n.toInt), 0#9, 511#9⟩ := by
  rw [wholeRange, BitVec.ofInt_add, BitVec.ofInt_natCast, BitVec.ofInt_toInt, BitVec.ofNat_toNat,
    BitVec.setWidth_eq]

/-- The limits of FIXINDx are the lower and the higher of its two values (R288). -/
theorem fixedRange_eq (t i : RegAddr) :
    fixedRange t i = ⟨i, BitVec.ofNat 9 (min i.toNat t.toNat), BitVec.ofNat 9 (max i.toNat t.toNat)⟩ := by
  unfold fixedRange
  by_cases h : i.toNat ≤ t.toNat
  · simp [h]
  · simp [h, Nat.le_of_not_le h]

/-- Settles O26, instruction by instruction. -/
theorem indirectPointerSetup : Obligations.IndirectPointerSetup := by
  simp only [Obligations.IndirectPointerSetup, ← wholeRange_add, ← fixedRange_eq]
  exact
    ⟨fun o s => completes_movePointers (fun _ => wholeRange o.n) id (exec_setindaAddr o s),
      fun o s => completes_movePointers id (fun _ => wholeRange o.n) (exec_setindbAddr o s),
      fun o s => completes_movePointers id (fun p => wholeRange (p.ptr + o.n)) (exec_setindbDelta o s),
      fun o s => completes_movePointers (fun _ => wholeRange o.a) (fun _ => wholeRange o.b)
        (exec_setindsAddrAddr o s),
      fun o s => completes_movePointers (fun p => wholeRange (p.ptr + o.a)) (fun _ => wholeRange o.b)
        (exec_setindsAddrDelta o s),
      fun o s => completes_movePointers (fun _ => wholeRange o.a) (fun p => wholeRange (p.ptr + o.b))
        (exec_setindsDeltaAddr o s),
      fun o s => completes_movePointers (fun p => wholeRange (p.ptr + o.a))
        (fun p => wholeRange (p.ptr + o.b)) (exec_setindsDeltaDelta o s),
      fun o s => completes_movePointers (fun _ => fixedRange o.terminal o.initial) id (exec_fixinda o s),
      fun o s => completes_movePointers id (fun _ => fixedRange o.terminal o.initial) (exec_fixindb o s),
      fun o s => completes_movePointers (fun _ => fixedRange o.terminal o.initial)
        (fun _ => fixedRange o.terminal o.initial) (exec_fixinds o s)⟩

/-! ### The step of a reference -/

/-- Register `a` lies between the limits of `p`. -/
def Within (p : IndPtr) (a : RegAddr) : Prop := p.bot.toNat ≤ a.toNat ∧ a.toNat ≤ p.top.toNat

/-- Below the top limit there is room for one more, so `Inc` does not leave the 9 bits (R272). -/
theorem indInc_toNat {p : IndPtr} (h : p.ptr.toNat ≤ p.top.toNat) :
    (indInc p).toNat = if p.ptr = p.top then p.bot.toNat else p.ptr.toNat + 1 := by
  unfold indInc
  split
  · rfl
  · next below =>
    have room : p.ptr.toNat ≠ p.top.toNat := mt BitVec.eq_of_toNat_eq below
    have bound := p.top.isLt
    exact BitVec.toNat_add_of_lt (show p.ptr.toNat + 1 < 2 ^ 9 by omega)

/-- Above the bottom limit the pointer is not 0, so `Dec` does not leave the 9 bits (R273). -/
theorem indDec_toNat {p : IndPtr} (h : p.bot.toNat ≤ p.ptr.toNat) :
    (indDec p).toNat = if p.ptr = p.bot then p.top.toNat else p.ptr.toNat - 1 := by
  unfold indDec
  split
  · rfl
  · next above =>
    have room : p.ptr.toNat ≠ p.bot.toNat := mt BitVec.eq_of_toNat_eq above
    exact BitVec.toNat_sub_of_le (BitVec.le_def.2 (show 1 ≤ p.ptr.toNat by omega))

theorem within_indInc {p : IndPtr} (h : Within p p.ptr) : Within p (indInc p) := by
  obtain ⟨low, high⟩ := h
  simp only [Within, indInc_toNat high, ← BitVec.toNat_inj]
  split <;> omega

theorem within_indDec {p : IndPtr} (h : Within p p.ptr) : Within p (indDec p) := by
  obtain ⟨low, high⟩ := h
  simp only [Within, indDec_toNat low, ← BitVec.toNat_inj]
  split <;> omega

/-- A reference moves the pointer and leaves the limits (R274). -/
theorem indAfter_eq (p : IndPtr) (m : BitVec 2) : indAfter p m =
    { p with ptr := if m = 0#2 then p.ptr else if m = 2#2 then indDec p else indInc p } := by
  unfold indAfter
  split_ifs <;> rfl

theorem within_indAfter {p : IndPtr} (h : Within p p.ptr) (m : BitVec 2) :
    Within p (indAfter p m).ptr := by
  rw [indAfter_eq]
  dsimp only
  split_ifs
  · exact h
  · exact within_indDec h
  · exact within_indInc h

theorem within_indAddr {p : IndPtr} (h : Within p p.ptr) (m : BitVec 2) : Within p (indAddr p m) := by
  unfold indAddr
  split_ifs
  · exact within_indInc h
  · exact h

/-- Settles O27: SETINDA with a delta, then the limits, the range and the step of a reference. -/
theorem indirectPointersStayInTheirRange : Obligations.IndirectPointersStayInTheirRange := by
  refine ⟨fun o s => ?_, ?_⟩
  · simp only [← wholeRange_add]
    exact completes_movePointers (fun p => wholeRange (p.ptr + o.n)) id (exec_setindaDelta o s)
  · intro p m low high up down
    obtain ⟨afterLow, afterHigh⟩ := within_indAfter ⟨low, high⟩ m
    obtain ⟨addrLow, addrHigh⟩ := within_indAddr ⟨low, high⟩ m
    refine ⟨by rw [indAfter_eq], by rw [indAfter_eq], afterLow, afterHigh, addrLow, addrHigh, ?_, ?_⟩
    · rw [indAfter_eq]
      simp only [apply_ite BitVec.toNat, indDec_toNat low, indInc_toNat high, up, down]
    · simp only [indAddr, apply_ite BitVec.toNat, indInc_toNat high, up]

end Sys2Proof.Machine
end

section
/-!
The stack pointers and the longs of stack RAM: SETSPx, ADDSPx, SUBSPx, CHKSPx, GETSPx, PUSHx and POPx (R300 to
R323).
-/
namespace Sys2Proof.Machine

/-! ### SPA and SPB -/

theorem low8_eq (v : Word) : low8 v = BitVec.ofNat 8 v.toNat := extractLsb'_zero 8 v

/-- Bit 7 of a pointer says that it is in the upper half of stack RAM (R308). -/
theorem stackPointer_bit7 (p : BitVec 8) : p.getLsbD 7 = decide (128 ≤ p.toNat) := by
  rw [← BitVec.msb_eq_getLsbD_last p, BitVec.msb_eq_decide]

theorem stackPointer_beq_zero (p : BitVec 8) : (p == 0#8) = decide (p.toNat = 0) := by
  rw [beq_eq_decide, decide_eq_decide, ← BitVec.toNat_inj]
  rfl

theorem zeroExtend_stackPointer (p : BitVec 8) : p.setWidth 32 = BitVec.ofNat 32 p.toNat :=
  (BitVec.ofNat_toNat 32 p).symm

/-- SPA - SPB modulo 256, zero-extended (R307). -/
theorem zeroExtend_pointerDifference (p q : BitVec 8) :
    (p - q).setWidth 32 = BitVec.ofNat 32 ((p.toNat + (256 - q.toNat)) % 256) := by
  rw [zeroExtend_stackPointer, BitVec.toNat_sub, Nat.add_comm]

theorem enter_sp (d y : Reg) (c : Cog) (x : Ind) : (enter d y c).sp x = c.sp x := by
  cases x <;> rfl

theorem readStack_enter (inp : Inputs) (d y : Reg) (c : Cog) (a : BitVec 8) :
    readStack inp (enter d y c) a = readStack inp c a := rfl

/-- The references of a slot and the PC play no part in a change of a stack pointer. -/
theorem benign_setSp (x : Ind) (g : BitVec 8 → BitVec 8) (d : Reg) (c : Cog) :
    Benign (fun c => c.setSp x (g (c.sp x))) d noReg c := by
  cases x
  · constructor <;> rfl
  · constructor <;> rfl

theorem changeSp_does {mk : DnOps → Instr} {x : Ind} {f : BitVec 8 → BitVec 8 → BitVec 8}
    (h : ∀ o s, exec (mk o) s = changeSp x f o s) :
    DnSets mk 8 fun v c => c.setSp x (f (c.sp x) (BitVec.ofNat 8 v.toNat)) :=
  runDn_does h (fun v c => by rw [low8_eq]) fun v d s => benign_setSp x (fun p => f p (low8 v)) d s.cog

/-- Z and C given by tests of SPA and SPB, as CHKSPx and GETSPx give them (R306 to R311). -/
def pointerFlags (zf cf : BitVec 8 → BitVec 8 → Bool) (z w : Bool) (c : Cog) : Cog :=
  writeC w (cf c.spa c.spb) (writeZ z (zf c.spa c.spb) c)

theorem diffFlags_eq :
    diffFlags = pointerFlags (fun p q => decide (p = q)) (fun p q => decide (p.toNat < q.toNat)) := by
  funext z w c
  rw [diffFlags, beq_eq_decide]
  rfl

theorem spFlags_a_eq : spFlags .a =
    pointerFlags (fun p _ => decide (p.toNat = 0)) (fun p _ => decide (128 ≤ p.toNat)) := by
  funext z w c
  rw [spFlags, stackPointer_bit7, stackPointer_beq_zero]
  rfl

theorem spFlags_b_eq : spFlags .b =
    pointerFlags (fun _ q => decide (q.toNat = 0)) (fun _ q => decide (128 ≤ q.toNat)) := by
  funext z w c
  rw [spFlags, stackPointer_bit7, stackPointer_beq_zero]
  rfl

theorem pointerCheck_does {mk : NoDOps → Instr} (zf cf : BitVec 8 → BitVec 8 → Bool)
    (h : ∀ o s, exec (mk o) s = runPlain o.cond s (onCog (pointerFlags zf cf o.z o.c))) :
    PlainDoes mk (·.cond) fun (o : NoDOps) s =>
      resultEffect o.z o.c false 0#9 0#32 (zf s.cog.spa s.cog.spb) (cf s.cog.spa s.cog.spb) := by
  intro o s hr
  refine ⟨_, ?_, did_result (benign_id noReg noReg s.cog) false o.z o.c 0#9 0#32 _ _⟩
  rw [h, runPlain_ready hr, onCog, State.setCog_cog, State.setCog_setCog]
  rfl

/-- The write of D leaves SPA and SPB, so the flags of GETSPx are those of the pointers read. -/
theorem pointerFlags_writeReg (zf cf : BitVec 8 → BitVec 8 → Bool) (z w : Bool) (a : RegAddr) (v : Word)
    (c : Cog) :
    pointerFlags zf cf z w (writeReg c a v) =
      writeC w (cf c.spa c.spb) (writeZ z (zf c.spa c.spb) (writeReg c a v)) := by
  have spa : (writeReg c a v).spa = c.spa := congrArg (fun b => b.spa) (writeReg_rest c a v)
  have spb : (writeReg c a v).spb = c.spb := congrArg (fun b => b.spb) (writeReg_rest c a v)
  rw [pointerFlags, spa, spb]

/-- A GETSPx completes; the references of the slot leave the value `v` (R307, R309, R311). -/
theorem pointerRead_completes {mk : DZCOps → Instr} (zf cf : BitVec 8 → BitVec 8 → Bool)
    (v : Cog → Word)
    (h : ∀ o s, exec (mk o) s = runD false o.cond o.d s fun da _ => onCog fun c =>
      pointerFlags zf cf o.z o.c (writeReg c da (v c)))
    (kept : ∀ d c, v (enter d noReg c) = v c) {o : DZCOps} {s : State} (hr : readyD false o.cond o.d s) :
    Completes (mk o) o.d noReg (resultEffect o.z o.c true (addrOf s o.d) (v s.cog)
      (zf s.cog.spa s.cog.spb) (cf s.cog.spa s.cog.spb)) s := by
  refine ⟨_, ?_, did_result (benign_id o.d noReg s.cog) true o.z o.c _ _ _ _⟩
  rw [h, runD_ready hr, onCog, State.setCog_cog, State.setCog_setCog, pointerFlags_writeReg, kept]
  rfl

/-- Settles O28, instruction by instruction. -/
theorem stackPointerInstructionResults : Obligations.StackPointerInstructionResults := by
  refine ⟨changeSp_does exec_setspa, changeSp_does exec_setspb, changeSp_does exec_addspa,
    changeSp_does exec_addspb, changeSp_does exec_subspa, changeSp_does exec_subspb,
    pointerCheck_does (fun p q => decide (p = q)) (fun p q => decide (p.toNat < q.toNat)) fun o s => ?_,
    pointerCheck_does (fun p _ => decide (p.toNat = 0)) (fun p _ => decide (128 ≤ p.toNat)) fun o s => ?_,
    pointerCheck_does (fun _ q => decide (q.toNat = 0)) (fun _ q => decide (128 ≤ q.toNat)) fun o s => ?_,
    fun o s hr => ?_, fun o s hr => ?_, fun o s hr => ?_⟩
  · rw [exec_chkspd, execChkspd, diffFlags_eq]
  · rw [exec_chkspa, execChkspa, spFlags_a_eq]
  · rw [exec_chkspb, execChkspb, spFlags_b_eq]
  · refine pointerRead_completes (mk := .getspd) (fun p q => decide (p = q))
      (fun p q => decide (p.toNat < q.toNat))
      (fun c => BitVec.ofNat 32 ((c.spa.toNat + (256 - c.spb.toNat)) % 256)) (fun o s => ?_) (fun _ _ => rfl) hr
    simp only [exec_getspd, execGetspd, diffFlags_eq, zeroExtend_pointerDifference]
  · refine pointerRead_completes (mk := .getspa) (fun p _ => decide (p.toNat = 0))
      (fun p _ => decide (128 ≤ p.toNat)) (fun c => BitVec.ofNat 32 c.spa.toNat) (fun o s => ?_)
      (fun _ _ => rfl) hr
    simp only [exec_getspa, execGetspa, getSp, spFlags_a_eq, zeroExtend_stackPointer]
    rfl
  · refine pointerRead_completes (mk := .getspb) (fun _ q => decide (q.toNat = 0))
      (fun _ q => decide (128 ≤ q.toNat)) (fun c => BitVec.ofNat 32 c.spb.toNat) (fun o s => ?_)
      (fun _ _ => rfl) hr
    simp only [exec_getspb, execGetspb, getSp, spFlags_b_eq, zeroExtend_stackPointer]
    rfl

/-! ### PUSHx and POPx -/

theorem benign_pushUp (x : Ind) (v : Word) (d : Reg) (c : Cog) : Benign (pushUp x v) d noReg c := by
  cases x
  · constructor <;> rfl
  · constructor <;> rfl

theorem benign_pushDown (x : Ind) (v : Word) (d : Reg) (c : Cog) : Benign (pushDown x v) d noReg c := by
  cases x
  · constructor <;> rfl
  · constructor <;> rfl

/-- A pop completes with the long that the read of stack RAM gives (R320 to R323). -/
theorem popFrom_completes {mk : DZCOps → Instr} {x : Ind} {at_ after : BitVec 8 → BitVec 8}
    (h : ∀ o s, exec (mk o) s = popFrom x at_ after o s) {o : DZCOps} {s : State}
    (hr : readyD false o.cond o.d s) {v : Word} (hv : readStack s.inputs s.cog (at_ (s.cog.sp x)) = v) :
    Completes (mk o) o.d noReg
      { resultEffect o.z o.c true (addrOf s o.d) v (decide (v = 0#32)) (v.getLsbD 31) with
        cog := fun c => c.setSp x (after (c.sp x)) } s := by
  subst hv
  refine ⟨_, ?_, did_result (benign_setSp x after o.d s.cog) true o.z o.c _ _ _ _⟩
  rw [h, popFrom, runD_ready hr, onCog, State.setCog_cog, State.setCog_setCog]
  dsimp only
  rw [enter_sp, readStack_enter, BitVec.msb_eq_getLsbD_last, beq_eq_decide]
  rfl

/-- Settles O29, instruction by instruction. -/
theorem pushAndPopResults : Obligations.PushAndPopResults :=
  ⟨runDn_does exec_pusha (fun _ _ => rfl) fun v d s => benign_pushUp .a v d s.cog,
    runDn_does exec_pushb (fun _ _ => rfl) fun v d s => benign_pushUp .b v d s.cog,
    runDn_does exec_pushar (fun _ _ => rfl) fun v d s => benign_pushDown .a v d s.cog,
    runDn_does exec_pushbr (fun _ _ => rfl) fun v d s => benign_pushDown .b v d s.cog,
    fun _ _ hr => popFrom_completes exec_popa hr rfl, fun _ _ hr => popFrom_completes exec_popb hr rfl,
    fun _ _ hr => popFrom_completes exec_popar hr rfl, fun _ _ hr => popFrom_completes exec_popbr hr rfl⟩

end Sys2Proof.Machine
end

section
/-!
Calls and returns through stack RAM: the frame, CALLx and RETx, and the return that undoes the call (R330
to R341).
-/
namespace Sys2Proof.Machine

/-! ### The frame (R341) -/

theorem callFrame_toNat (z c : Bool) (pc : RegAddr) :
    (callFrame z c pc).toNat = z.toNat * 2 ^ 10 + c.toNat * 2 ^ 9 + pc.toNat := by
  simp only [callFrame, toNat_append_eq_add, BitVec.toNat_ofBool, BitVec.toNat_ofNat]
  omega

/-- What a return reads out of a frame: Z, C and the return address. -/
theorem callFrame_fields (z c : Bool) (pc : RegAddr) :
    (callFrame z c pc).getLsbD 10 = z ∧ (callFrame z c pc).getLsbD 9 = c ∧
      BitVec.ofNat 9 (callFrame z c pc).toNat = pc := by
  have hc := c.toNat_le
  have hpc := pc.isLt
  refine ⟨getLsbD_eq_of_div_mod ?_, getLsbD_eq_of_div_mod ?_, ?_⟩
  · rw [callFrame_toNat]
    have hz := z.toNat_le
    omega
  · rw [callFrame_toNat]
    omega
  · rw [← extractLsb'_zero]
    exact BitVec.extractLsb'_append_eq_right

theorem callFrame_high (z c : Bool) (pc : RegAddr) {i : Nat} (h : 11 ≤ i) :
    (callFrame z c pc).getLsbD i = false := by
  have hz := z.toNat_le
  have hc := c.toNat_le
  have hpc := pc.isLt
  have small : (callFrame z c pc).toNat < 2 ^ 11 := by
    rw [callFrame_toNat]
    omega
  exact Nat.testBit_lt_two_pow (small.trans_le (Nat.pow_le_pow_right (by decide) h))

/-! ### CALLx -/

/-- How far behind a call its return address lies (R330 to R333; D13, D14). -/
def returnDistance (delayed : Bool) : Nat := if delayed then 4 else 1

/-- The frame a call pushes in `s`. -/
def pushedFrame (delayed : Bool) (s : State) : Word :=
  callFrame s.cog.flagZ s.cog.flagC (BitVec.ofNat 9 (s.cog.pcNow.toNat + returnDistance delayed))

theorem pushedFrame_eq (delayed : Bool) (s : State) : pushedFrame delayed s =
    BitVec.ofNat 32 ((if s.cog.flagZ then 2 ^ 10 else 0) + (if s.cog.flagC then 2 ^ 9 else 0) +
      (s.cog.pcNow.toNat + returnDistance delayed) % 2 ^ 9) := by
  have bit : ∀ (b : Bool) (n : Nat), b.toNat * n = if b then n else 0 := fun b n => by
    cases b
    · exact Nat.zero_mul n
    · exact Nat.one_mul n
  rw [← bit, ← bit, ← BitVec.toNat_ofNat, ← callFrame_toNat, BitVec.ofNat_toNat, BitVec.setWidth_eq]
  rfl

theorem returnAddress_eq (delayed : Bool) (pc : RegAddr) :
    pc + (if delayed then callDReturnOffset else 1#9) = BitVec.ofNat 9 (pc.toNat + returnDistance delayed) := by
  rw [BitVec.ofNat_add, BitVec.ofNat_toNat, BitVec.setWidth_eq]
  cases delayed <;> rfl

theorem callWith_does {mk : DnOps → Instr} {x : Ind} {delayed : Bool} {frame : State → Word}
    (h : ∀ o s, exec (mk o) s = callWith x delayed o s) (hf : ∀ s, pushedFrame delayed s = frame s) :
    DnDoes mk 9 fun s v =>
      { branch := some (delayed, BitVec.ofNat 9 v.toNat), cog := pushUp x (frame s) } := by
  intro o s hr
  refine ⟨_, ?_, did_main (benign_pushUp x _ (dimmReg o.d) s.cog) false false false false false true delayed
    0#9 _ 0#32⟩
  rw [h, callWith, runDn_ready hr, onCog, State.setCog_cog, State.setCog_setCog, extractLsb'_zero, ← hf,
    pushedFrame, ← returnAddress_eq, enter_flagZ, enter_flagC]
  rfl

/-! ### RETx -/

/-- The COG after a return with the popped long `v`. -/
def returned (x : Ind) (delayed : Bool) (o : NoDOps) (v : Word) (c : Cog) : Cog :=
  flagsAndBranch o.z (v.getLsbD 10) o.c (v.getLsbD 9) true delayed (BitVec.ofNat 9 v.toNat)
    ((enter noReg noReg c).setSp x (c.sp x - 1#8))

theorem exec_return_ready {i : Instr} {x : Ind} {delayed : Bool} {o : NoDOps} {s : State}
    (h : exec i s = returnWith x delayed o s) (hr : readyPlain o.cond s) :
    exec i s =
      .next (s.setCog (returned x delayed o (readStack s.inputs s.cog (s.cog.sp x - 1#8)) s.cog)) := by
  rw [h, returnWith, runPlain_ready hr, onCog, State.setCog_cog, State.setCog_setCog]
  dsimp only
  rw [enter_sp, readStack_enter, extractLsb'_zero]
  rfl

theorem returnWith_completes {i : Instr} {x : Ind} {delayed : Bool} {o : NoDOps} {s : State}
    (h : exec i s = returnWith x delayed o s) (hr : readyPlain o.cond s) {v : Word}
    (hv : readStack s.inputs s.cog (s.cog.sp x - 1#8) = v) :
    Completes i noReg noReg
      { resultEffect o.z o.c false 0#9 0#32 (v.getLsbD 10) (v.getLsbD 9) with
        branch := some (delayed, BitVec.ofNat 9 v.toNat), cog := fun c => c.setSp x (c.sp x - 1#8) } s := by
  subst hv
  refine ⟨_, ?_, did_main (benign_setSp x (· - 1#8) noReg s.cog) false o.z _ o.c _ true delayed 0#9 _ 0#32⟩
  rw [exec_return_ready h hr, returned, enter_sp]
  rfl

/-- Settles O30, instruction by instruction. -/
theorem stackCallAndReturnResults : Obligations.StackCallAndReturnResults :=
  ⟨callWith_does exec_calla (pushedFrame_eq false), callWith_does exec_callb (pushedFrame_eq false),
    callWith_does exec_callad (pushedFrame_eq true), callWith_does exec_callbd (pushedFrame_eq true),
    fun o s hr => returnWith_completes (exec_reta o s) hr rfl,
    fun o s hr => returnWith_completes (exec_retb o s) hr rfl,
    fun o s hr => returnWith_completes (exec_retad o s) hr rfl,
    fun o s hr => returnWith_completes (exec_retbd o s) hr rfl⟩

/-! ### The stack after an instruction -/

theorem setSp_sp (c : Cog) (x y : Ind) (p : BitVec 8) : (c.setSp x p).sp y = if y = x then p else c.sp y := by
  cases x <;> cases y <;> rfl

theorem pushUp_sp (x y : Ind) (v : Word) (c : Cog) :
    (pushUp x v c).sp y = if y = x then c.sp x + 1#8 else c.sp y := by
  cases x <;> cases y <;> rfl

theorem pushUp_stk (x : Ind) (v : Word) (c : Cog) : (pushUp x v c).stk = c.stk.wr (c.sp x) v := by
  cases x <;> rfl

theorem pushUp_video (x : Ind) (v : Word) (c : Cog) : (pushUp x v c).video = c.video := by
  cases x <;> rfl

theorem pushUp_ram (x : Ind) (v : Word) (c : Cog) : (pushUp x v c).ram = c.ram := by
  cases x <;> rfl

theorem setSp_ram (c : Cog) (x : Ind) (p : BitVec 8) : (c.setSp x p).ram = c.ram := by
  cases x <;> rfl

theorem quiet_sp (c : Cog) (x : Ind) : (quiet c).sp x = c.sp x := by
  cases x <;> rfl

theorem rest_sp (c : Cog) (x : Ind) : c.rest.sp x = c.sp x := by
  cases x <;> rfl

section
variable {e : Effect} {d y : Reg} {s t : State}

theorem Did.sp (h : Did e d y s t) (x : Ind) : t.cog.sp x = (e.cog (quiet s.cog)).sp x := by
  rw [← rest_sp, h.rest, rest_sp]

theorem Did.stk (h : Did e d y s t) : t.cog.stk = (e.cog (quiet s.cog)).stk :=
  congrArg (fun c => c.stk) h.rest

theorem Did.video (h : Did e d y s t) : t.cog.video = (e.cog (quiet s.cog)).video :=
  congrArg (fun c => c.video) h.rest

end

section
variable {b : Option (Bool × RegAddr)} {d y : Reg} {x : Ind} {v : Word} {s t : State}

/-- After a push the long lies where the pointer was. -/
theorem Did.pushed_stk (h : Did { branch := b, cog := pushUp x v } d y s t) :
    t.cog.stk.rd (s.cog.sp x) = v := by
  rw [h.stk, pushUp_stk, quiet_sp, Bank.rd_wr_self]

theorem Did.pushed_sp (h : Did { branch := b, cog := pushUp x v } d y s t) (w : Ind) :
    t.cog.sp w = if w = x then s.cog.sp x + 1#8 else s.cog.sp w := by
  rw [h.sp, pushUp_sp, quiet_sp, quiet_sp]

/-- A pop right after a push reads the pushed long, while the video generator is not in use (R100, R340). -/
theorem Did.pushed_readStack (h : Did { branch := b, cog := pushUp x v } d y s t)
    (unused : s.cog.video.inUse = false) : readStack t.inputs t.cog (t.cog.sp x - 1#8) = v := by
  have video : t.cog.video = s.cog.video := by rw [h.video, pushUp_video, quiet_video]
  rw [readStack, video, unused, h.pushed_sp, if_pos rfl, BitVec.add_sub_cancel, h.pushed_stk]
  rfl

end

/-! ### A call and its return -/

theorem readyPlain_always (s : State) : readyPlain 15#4 s :=
  (executes_iff s.cog 15#4 false).2 (Or.inr (by cases s.cog.flagZ <;> cases s.cog.flagC <;> decide))

theorem return_undoes_call {call : DnOps → Instr} {ret : NoDOps → Instr} {x : Ind}
    (hcall : ∀ o s, exec (call o) s = callWith x false o s)
    (hret : ∀ o s, exec (ret o) s = returnWith x false o s) {o : DnOps} {s : State}
    (hr : readyDn o.cond o.d s) (unused : s.cog.video.inUse = false) :
    ∃ t u, exec (call o) s = .next t ∧ exec (ret ⟨true, true, 15#4⟩) t = .next u ∧
      u.cog.pcNow = s.cog.pcNow + 1#9 ∧ u.cog.flagZ = s.cog.flagZ ∧ u.cog.flagC = s.cog.flagC ∧
      u.cog.spa = s.cog.spa ∧ u.cog.spb = s.cog.spb ∧ u.cog.ram = s.cog.ram := by
  obtain ⟨t, ht, called⟩ := callWith_does hcall (fun _ => rfl) o s hr
  obtain ⟨u, hu, back⟩ := returnWith_completes (hret ⟨true, true, 15#4⟩ t) (readyPlain_always t)
    (called.pushed_readStack unused)
  obtain ⟨flagZ, flagC, address⟩ := callFrame_fields s.cog.flagZ s.cog.flagC
    (BitVec.ofNat 9 (s.cog.pcNow.toNat + returnDistance false))
  have pointers : ∀ w, u.cog.sp w = s.cog.sp w := fun w => by
    rw [back.sp, setSp_sp, quiet_sp, quiet_sp, called.pushed_sp, called.pushed_sp, if_pos rfl,
      BitVec.add_sub_cancel]
    split
    · next same => rw [same]
    · rfl
  have kept : RegistersKept _ t.cog := called.regs
  have keptBack : RegistersKept _ u.cog := back.regs
  refine ⟨t, u, ht, hu, ?_, back.flow.flagZ.trans flagZ, back.flow.flagC.trans flagC, pointers .a,
    pointers .b, ?_⟩
  · exact back.flow.pc.trans (address.trans (returnAddress_eq false s.cog.pcNow).symm)
  · rw [keptBack.ram, setSp_ram, quiet_ram, kept.ram, pushUp_ram, quiet_ram]

/-- Settles O31, for each of the two stacks. -/
theorem returnUndoesCall : Obligations.ReturnUndoesCall := fun _ _ hr unused =>
  ⟨return_undoes_call exec_calla exec_reta hr unused, return_undoes_call exec_callb exec_retb hr unused⟩

/-! ### The layout of the frame -/

theorem call_pushes_frame {mk : DnOps → Instr} {x : Ind} {delayed : Bool}
    (h : ∀ o s, exec (mk o) s = callWith x delayed o s) {o : DnOps} {s : State} (hr : readyDn o.cond o.d s) :
    ∃ t, exec (mk o) s = .next t ∧ t.cog.stk.rd (s.cog.sp x) = pushedFrame delayed s := by
  obtain ⟨t, ht, called⟩ := callWith_does h (fun _ => rfl) o s hr
  exact ⟨t, ht, called.pushed_stk⟩

/-- A COG with other longs in stack RAM. -/
def Cog.setStk (c : Cog) (stk : Bank 8 Word) : Cog := { c with stk := stk }

theorem setStk_sp (c : Cog) (stk : Bank 8 Word) (x : Ind) : (c.setStk stk).sp x = c.sp x := by
  cases x <;> rfl

theorem readStack_setStk (inp : Inputs) (c : Cog) (a : BitVec 8) (v : Word) :
    readStack inp (c.setStk (c.stk.wr a v)) a = if c.video.inUse then inp.stkDraw else v := by
  rw [readStack, Cog.setStk, Bank.rd_wr_self]

/-- What a return does to the tasks depends on no bit of the frame above bit 10, and on stack RAM in no other
way (R341). -/
theorem returned_tasks_congr {v w : Word} (low : ∀ i, i < 11 → w.getLsbD i = v.getLsbD i) (x : Ind)
    (delayed : Bool) (o : NoDOps) (c : Cog) (stk : Bank 8 Word) :
    (returned x delayed o v c).tasks = (returned x delayed o w (c.setStk stk)).tasks := by
  have address : BitVec.ofNat 9 w.toNat = BitVec.ofNat 9 v.toNat := by
    rw [← extractLsb'_zero, ← extractLsb'_zero]
    ext i hi
    simpa [hi] using low i (by omega)
  rw [returned, returned, flagsAndBranch_eq, flagsAndBranch_eq, low 10 (by decide), low 9 (by decide), address]
  cases x <;> rfl

/-- A return in two states that differ in stack RAM, the popped longs alike below bit 11. -/
theorem return_tasks_eq {i : Instr} {x : Ind} {delayed : Bool} {o : NoDOps}
    (h : ∀ s, exec i s = returnWith x delayed o s) {s : State} {v : Word} (hr : readyPlain o.cond s)
    (low : ∀ i, i < 11 → v.getLsbD i = (s.cog.stk.rd (s.cog.sp x - 1#8)).getLsbD i) :
    ∃ t u, exec i s = .next t ∧
      exec i (s.setCog (s.cog.setStk (s.cog.stk.wr (s.cog.sp x - 1#8) v))) = .next u ∧
      t.cog.tasks = u.cog.tasks := by
  have ready : readyPlain o.cond (s.setCog (s.cog.setStk (s.cog.stk.wr (s.cog.sp x - 1#8) v))) := by
    rw [readyPlain, State.setCog_cog]
    exact hr
  refine ⟨_, _, exec_return_ready (h _) hr, exec_return_ready (h _) ready, ?_⟩
  simp only [State.setCog_cog, State.setCog_inputs]
  refine returned_tasks_congr (fun i hi => ?_) x delayed o s.cog _
  rw [setStk_sp, readStack_setStk, readStack]
  split
  · rfl
  · exact low i hi

theorem return_of_mem {mk : NoDOps → Instr} {x : Ind}
    (h : (mk, x) ∈ [(Instr.reta, Ind.a), (.retb, .b), (.retad, .a), (.retbd, .b)]) :
    ∃ delayed, ∀ o s, exec (mk o) s = returnWith x delayed o s := by
  simp only [List.mem_cons, Prod.mk.injEq, List.not_mem_nil, or_false] at h
  obtain ⟨rfl, rfl⟩ | ⟨rfl, rfl⟩ | ⟨rfl, rfl⟩ | ⟨rfl, rfl⟩ := h
  · exact ⟨false, exec_reta⟩
  · exact ⟨false, exec_retb⟩
  · exact ⟨true, exec_retad⟩
  · exact ⟨true, exec_retbd⟩

/-- Settles O45: the bits of the frame, the four calls, the four returns. -/
theorem callFrameLayout : Obligations.CallFrameLayout := by
  refine ⟨fun z c pc => ⟨callFrame_toNat z c pc, fun _ => callFrame_high z c pc⟩, fun o s hr =>
    ⟨call_pushes_frame exec_calla hr, call_pushes_frame exec_callb hr, call_pushes_frame exec_callad hr,
      call_pushes_frame exec_callbd hr⟩, fun mk x hmem o s v hr low => ?_⟩
  obtain ⟨delayed, h⟩ := return_of_mem hmem
  exact return_tasks_eq (h o) hr low

end Sys2Proof.Machine
end

section
/-!
Branches by a test and reads of the devices: IJxx, DJxx, TJxx, JP, JNP and PASSCNT (R570 to R585, R370),
GETPHSx to POLVID (R670, R690 to R697).
-/
namespace Sys2Proof.Machine

/-! ### Branches -/

/-- A result and a branch. -/
theorem did_branch (d x : Reg) (s : State) (r b delayed : Bool) (a target : RegAddr) (v : Word) :
    Did { write := if r then some (a, v) else none
          branch := if b then some (delayed, target) else none } d x s
      (s.setCog (branchIf b delayed target (writeD r a v (enter d x s.cog)))) :=
  did_main (benign_id d x s.cog) r false false false false b delayed a target v

theorem branch_eq_if {p : Prop} [Decidable p] {b : Bool} (h : b = true ↔ p) (y : Bool × RegAddr) :
    (if b then some y else none) = if p then some y else none := if_congr h rfl rfl

/-- `by_` added modulo 2^32 is an exact step brought back into a long (R568). -/
theorem ofInt_toNat_add (v : Word) (n : Int) : BitVec.ofInt 32 (v.toNat + n) = v + BitVec.ofInt 32 n := by
  rw [BitVec.ofInt_add, BitVec.ofInt_natCast, BitVec.ofNat_toNat, BitVec.setWidth_eq]

/-- IJxx and DJxx complete (R568). -/
theorem countJump_completes {mk : DSROps → Instr} {by_ : Word} {n : Int} {onZero delayed : Bool}
    (h : ∀ o s, exec (mk o) s = countJump by_ onZero delayed o s) (hn : by_ = BitVec.ofInt 32 n)
    {o : DSROps} {s : State} (hr : readyDS true o.cond o.d o.s s) {v : Word}
    (hv : v = BitVec.ofInt 32 ((valueOf s o.d).toNat + n)) :
    Completes (mk o) o.d (srcReg o.s)
      { write := if o.r then some (addrOf s o.d, v) else none
        branch := if decide (v = 0#32) = onZero then
          some (delayed, BitVec.ofNat 9 (sourceOf s o.s).toNat) else none } s := by
  have stepped : valueOf s o.d + by_ = v := by rw [hv, hn, ofInt_toNat_add]
  rw [← branch_eq_if (b := (v == 0#32) == onZero) (by rw [beq_iff_eq, beq_eq_decide])]
  refine ⟨_, ?_, did_branch o.d (srcReg o.s) s o.r _ delayed _ _ v⟩
  rw [h, countJump, runDS_ready hr, onCog, State.setCog_cog, State.setCog_setCog, stepped,
    extractLsb'_zero]

/-- A D,S instruction that only branches, to S, if its test `t` of the state and Dv holds. -/
theorem dsBranch_does {mk : DSOps → Instr} {t : State → Word → Bool} {delayed : Bool}
    (h : ∀ o s, readyDS true o.cond o.d o.s s → exec (mk o) s =
      .next (s.setCog (branchIf (t s (valueOf s o.d)) delayed ((sourceOf s o.s).extractLsb' 0 9)
        (enter o.d (srcReg o.s) s.cog)))) :
    DsDoes mk fun s d x =>
      { branch := if t s d then some (delayed, BitVec.ofNat 9 x.toNat) else none } := by
  intro o s hr
  refine ⟨_, h o s hr, ?_⟩
  rw [extractLsb'_zero]
  exact did_branch o.d (srcReg o.s) s false _ delayed 0#9 _ 0#32

/-- TJxx (R582 to R585). -/
theorem testJump_does {mk : DSOps → Instr} {onZero delayed : Bool} {t : Word → Bool}
    (h : ∀ o s, exec (mk o) s = testJump onZero delayed o s) (ht : ∀ v, ((v == 0#32) == onZero) = t v) :
    DsDoes mk fun _ d x =>
      { branch := if t d then some (delayed, BitVec.ofNat 9 x.toNat) else none } :=
  dsBranch_does (t := fun _ => t) fun o s hr => by
    rw [h, testJump, runDS_ready hr, onCog, State.setCog_cog, State.setCog_setCog, ht]

/-- JP and JNP (R370). -/
theorem pinJump_does {mk : DSOps → Instr} {on : Bool} {t : Bool → Bool}
    (h : ∀ o s, exec (mk o) s = pinJump on o s) (ht : ∀ b, (b == on) = t b) :
    DsDoes mk fun s _ x =>
      { branch := if t s.inputs.pinsSay then some (false, BitVec.ofNat 9 x.toNat) else none } :=
  dsBranch_does (t := fun s _ => t s.inputs.pinsSay) fun o s hr => by
    rw [h, pinJump, runDS_ready hr, onCog, State.setCog_cog, State.setCog_setCog, ht, State.setCog_inputs]

theorem passcnt_completes {o : D0Ops} {s : State} (hr : readyD true o.cond o.d s) :
    Completes (.passcnt o) o.d noReg
      { branch := if s.inputs.timePassed then none else some (false, s.cog.pcNow) } s := by
  have again : (if s.inputs.timePassed then none else some (false, s.cog.pcNow)) =
      if !s.inputs.timePassed then some (false, s.cog.pcNow) else none := by
    cases s.inputs.timePassed <;> rfl
  rw [again]
  refine ⟨_, ?_, did_branch o.d noReg s false _ false 0#9 _ 0#32⟩
  rw [exec_passcnt, execPasscnt, runD_ready hr, onCog, State.setCog_cog, State.setCog_setCog]
  rfl

/-- Settles O35, instruction by instruction. -/
theorem testedBranchResults : Obligations.TestedBranchResults := by
  have onZero : ∀ v : Word, ((v == 0#32) == true) = decide (v = 0#32) := fun v => by
    rw [beq_true, beq_eq_decide]
  have onOther : ∀ v : Word, ((v == 0#32) == false) = decide (v ≠ 0#32) := fun v => by
    rw [beq_false, beq_eq_decide, decide_not]
  exact ⟨fun _ _ hr => countJump_completes exec_ijz (by decide) hr rfl,
    fun _ _ hr => countJump_completes exec_ijzd (by decide) hr rfl,
    fun _ _ hr => countJump_completes exec_ijnz (by decide) hr rfl,
    fun _ _ hr => countJump_completes exec_ijnzd (by decide) hr rfl,
    fun _ _ hr => countJump_completes exec_djz (by decide) hr rfl,
    fun _ _ hr => countJump_completes exec_djzd (by decide) hr rfl,
    fun _ _ hr => countJump_completes exec_djnz (by decide) hr rfl,
    fun _ _ hr => countJump_completes exec_djnzd (by decide) hr rfl,
    testJump_does exec_tjz onZero, testJump_does exec_tjzd onZero,
    testJump_does exec_tjnz onOther, testJump_does exec_tjnzd onOther,
    pinJump_does (t := id) exec_jp beq_true, pinJump_does exec_jnp beq_false,
    fun _ _ hr => passcnt_completes hr⟩

/-! ### Devices -/

/-- What a running counter shows is an input, and the slot leaves the counter (R688). -/
theorem phsA_enter (s : State) (d : Reg) : phsA (s.setCog (enter d noReg s.cog)) = phsA s := by
  rw [phsA, State.setCog_cog]
  rfl

theorem phsB_enter (s : State) (d : Reg) : phsB (s.setCog (enter d noReg s.cog)) = phsB s := by
  rw [phsB, State.setCog_cog]
  rfl

/-- A POLxxx gives C the answer `b`, which the slot itself leaves as it is (R370). -/
theorem poll_does {mk : PollOps → Instr} {b : State → Bool}
    (h : ∀ o s, exec (mk o) s = runPlain o.cond s fun s1 => onCog (writeC o.c (b s1)) s1)
    (hb : ∀ s : State, b (s.setCog (enter noReg noReg s.cog)) = b s) :
    PlainDoes mk (·.cond) fun (o : PollOps) s => { c := if o.c then some (b s) else none } := by
  intro o s hr
  refine ⟨_, ?_, did_result (benign_id noReg noReg s.cog) false false o.c 0#9 0#32 false (b s)⟩
  rw [h, runPlain_ready hr, onCog, State.setCog_cog, State.setCog_setCog, hb]
  rfl

/-- Settles O41, instruction by instruction. -/
theorem deviceReads : Obligations.DeviceReads := by
  refine ⟨getValue_does exec_getphsa phsA_enter, getValue_does exec_getphsb phsB_enter,
    dzr_does (fun o s hr => ?_) fun d s => ?_, dzr_does (fun o s hr => ?_) fun d s => ?_,
    getValue_does exec_getcosa fun _ _ => rfl, getValue_does exec_getsina fun _ _ => rfl,
    getValue_does exec_getcosb fun _ _ => rfl, getValue_does exec_getsinb fun _ _ => rfl,
    getValue_does exec_getpix fun _ _ => rfl,
    poll_does exec_polctra fun s => ?_, poll_does exec_polctrb fun s => ?_,
    poll_does exec_polvid fun _ => rfl⟩
  · rw [exec_getphza, execGetphza, runD_ready hr, phsA_enter, onCog, State.setCog_cog, State.setCog_setCog]
    rfl
  · constructor <;> rfl
  · rw [exec_getphzb, execGetphzb, runD_ready hr, phsB_enter, onCog, State.setCog_cog, State.setCog_setCog]
    rfl
  · constructor <;> rfl
  · rw [State.setCog_cog]
    rfl
  · rw [State.setCog_cog]
    rfl

end Sys2Proof.Machine
end

section
/-!
The TASK register and its slots (R361), SETTASK (R362) and JMPTASK (R363).
-/
namespace Sys2Proof.Machine

/-! ### TASK -/

theorem beginSlot_task (c : Cog) : (beginSlot c).task = (dueTask c).rotateRight 2 := rfl

theorem beginSlot_cur (c : Cog) : (beginSlot c).cur = BitVec.ofNat 2 (dueTask c).toNat :=
  extractLsb'_zero 2 _

theorem beginSlot_taskWrites (c : Cog) : (beginSlot c).taskWrites =
    (c.taskWrites.filter fun e => e.rem != 0).map fun e => { e with rem := e.rem - 1 } := rfl

/-- Without a value on its way TASK stays in force. -/
theorem dueTask_of_none {c : Cog} (h : c.taskWrites = []) : dueTask c = c.task := by
  rw [dueTask, h]
  rfl

/-- A value that is due comes into force (R362). -/
theorem dueTask_of_due {c : Cog} {v : Word} (h : c.taskWrites = [⟨v, 0⟩]) : dueTask c = v := by
  rw [dueTask, h]
  rfl

/-- A value that is not due yet leaves TASK in force (R362, D17). -/
theorem dueTask_of_pending {c : Cog} {v : Word} {n : Nat} (h : c.taskWrites = [⟨v, n + 1⟩]) :
    dueTask c = c.task := by
  rw [dueTask, h]
  rfl

/-- A cycle brings a value that is on its way one cycle nearer. -/
theorem beginSlot_pending {c : Cog} {v : Word} {n : Nat} (h : c.taskWrites = [⟨v, n + 1⟩]) :
    (beginSlot c).taskWrites = [⟨v, n⟩] ∧ (beginSlot c).task = c.task.rotateRight 2 := by
  rw [beginSlot_taskWrites, beginSlot_task, dueTask_of_pending h, h]
  exact ⟨rfl, rfl⟩

theorem rotateRight_toNat (x : Word) :
    (x.rotateRight 2).toNat = x.toNat / 4 + x.toNat % 4 * 2 ^ 30 := by
  have hx := x.isLt
  have low : x.toNat <<< 30 % 2 ^ 32 = (x.toNat % 4) <<< 30 := by
    rw [Nat.shiftLeft_eq, Nat.shiftLeft_eq]
    omega
  rw [BitVec.toNat_rotateRight, Nat.or_comm]
  show x.toNat <<< 30 % 2 ^ 32 ||| x.toNat >>> 2 = _
  rw [low, ← Nat.shiftLeft_add_eq_or_of_lt (by rw [Nat.shiftRight_eq_div_pow]; omega),
    Nat.shiftLeft_eq, Nat.shiftRight_eq_div_pow]
  omega

theorem taskNumber_congr {m n : Nat} (h : m % 4 = n % 4) : BitVec.ofNat 2 m = BitVec.ofNat 2 n :=
  BitVec.eq_of_toNat_eq (by rw [BitVec.toNat_ofNat, BitVec.toNat_ofNat]; exact h)

/-- Rotated by one slot, TASK shows the next slots where the first ones were (R361). -/
theorem rotateRight_slots (x : Word) : (x.rotateRight 2).toNat % 4 = x.toNat / 4 % 4 ∧
    (x.rotateRight 2).toNat / 4 % 4 = x.toNat / 4 / 4 % 4 := by
  rw [rotateRight_toNat]
  generalize x.toNat / 4 = y
  omega

/-- The slots come in order: rotated `n` times, TASK shows slot `n` in its two low bits (R361). -/
theorem getLsbD_rotations (x : Word) (n : Nat) {i : Nat} (hi : i < 32) :
    (((BitVec.rotateRight · 2)^[n] x).getLsbD i) = x.getLsbD ((i + 2 * n) % 32) := by
  induction n generalizing i with
  | zero => rw [Function.iterate_zero_apply, Nat.mod_eq_of_lt (by omega)]; rfl
  | succ n ih =>
    rw [Function.iterate_succ_apply', BitVec.getLsbD_rotateRight]
    by_cases wraps : i < 30
    · rw [show decide (i < 32 - 2 % 32) = true by simpa using wraps, cond_true, ih (by omega)]
      congr 1; omega
    · rw [show decide (i < 32 - 2 % 32) = false by simpa using wraps, cond_false, ih (by omega)]
      simp only [hi, decide_true, Bool.true_and]
      congr 1; omega

/-- After sixteen slots TASK is what it was (R361). -/
theorem sixteen_rotations (x : Word) : (BitVec.rotateRight · 2)^[16] x = x := by
  refine BitVec.eq_of_getLsbD_eq fun i hi => ?_
  rw [getLsbD_rotations x 16 hi]
  congr 1; omega

theorem iterate_beginSlot_task {c : Cog} (h : c.taskWrites = []) (n : Nat) :
    (beginSlot^[n] c).task = (BitVec.rotateRight · 2)^[n] c.task := by
  induction n generalizing c with
  | zero => rfl
  | succ n ih =>
    have empty : (beginSlot c).taskWrites = [] := by
      rw [beginSlot_taskWrites, h]
      rfl
    rw [Function.iterate_succ_apply, ih empty, beginSlot_task, dueTask_of_none h,
      Function.iterate_succ_apply]

/-! ### SETTASK -/

/-- A byte four times over (R362). -/
theorem fourBytes_eq {v : Word} (h : v.toNat < 2 ^ 8) :
    v.extractLsb' 0 8 ++ v.extractLsb' 0 8 ++ v.extractLsb' 0 8 ++ v.extractLsb' 0 8 =
      BitVec.ofNat 32 (v.toNat * (2 ^ 24 + 2 ^ 16 + 2 ^ 8 + 1)) := by
  apply BitVec.eq_of_toNat_eq
  rw [extractLsb'_zero]
  simp only [toNat_append_eq_add, BitVec.toNat_ofNat, Nat.mod_eq_of_lt h]
  omega

/-- What SETTASK queues: the register, or the low byte of the immediate four times (R362). -/
theorem taskValue_eq (s : State) (d : DImm) : taskValue d (numberOf 8 s d) =
    match d with
    | .reg _ => numberOf 8 s d
    | .imm _ => BitVec.ofNat 32 ((numberOf 8 s d).toNat * (2 ^ 24 + 2 ^ 16 + 2 ^ 8 + 1)) := by
  cases d with
  | reg x => rfl
  | imm n =>
    refine fourBytes_eq ?_
    show ((n.setWidth 8).setWidth 32).toNat < 2 ^ 8
    rw [BitVec.toNat_setWidth, BitVec.toNat_setWidth]
    omega

theorem settask_completes {o : DnOps} {s : State} (hr : readyDn o.cond o.d s) :
    Completes (.settask o) (dimmReg o.d) noReg
      { cog := fun c =>
          { c with taskWrites := c.taskWrites ++ [⟨taskValue o.d (numberOf 8 s o.d), 3⟩] } } s := by
  refine ⟨_, ?_, did_other ?_⟩
  · rw [exec_settask, execSettask, runDn_ready hr, onCog, State.setCog_cog, State.setCog_setCog]
  · constructor <;> rfl

/-- Settles O32: SETTASK's value counts down from 3 and comes into force at 0, and each cycle rotates TASK. -/
theorem taskSlotsRotateAndSettaskIsLate : Obligations.TaskSlotsRotateAndSettaskIsLate := by
  refine ⟨fun o s hr => ?_, fun c h => ⟨?_, ?_, ?_⟩, fun c v => ?_⟩
  · have done := settask_completes hr
    rw [taskValue_eq] at done
    exact done
  · rw [beginSlot_cur, dueTask_of_none h]
    exact taskNumber_congr (Nat.mod_mod _ _).symm
  · rw [beginSlot_task, dueTask_of_none h]
  · rw [iterate_beginSlot_task h, sixteen_rotations]
  intro c0
  have w0 : c0.taskWrites = [⟨v, 3⟩] := rfl
  have t0 : c0.task = c.task := rfl
  obtain ⟨w1, t1⟩ := beginSlot_pending w0
  obtain ⟨w2, t2⟩ := beginSlot_pending w1
  obtain ⟨w3, t3⟩ := beginSlot_pending w2
  refine ⟨?_, ?_, ?_, ?_, ?_⟩
  · rw [beginSlot_cur, dueTask_of_pending w0]
  · show (beginSlot (beginSlot c0)).cur = _
    rw [beginSlot_cur, dueTask_of_pending w1, t1, t0, taskNumber_congr (rotateRight_slots _).1]
  · show (beginSlot (beginSlot (beginSlot c0))).cur = _
    rw [beginSlot_cur, dueTask_of_pending w2, t2, t1, t0]
    obtain ⟨first, -⟩ := rotateRight_slots (c.task.rotateRight 2)
    obtain ⟨-, second⟩ := rotateRight_slots c.task
    exact taskNumber_congr (first.trans (second.trans (by rw [Nat.div_div_eq_div_mul])))
  · show (beginSlot (beginSlot (beginSlot (beginSlot c0)))).cur = _
    rw [beginSlot_cur, dueTask_of_due w3]
  · show (beginSlot (beginSlot (beginSlot (beginSlot c0)))).task = _
    rw [beginSlot_task, dueTask_of_due w3]

/-! ### JMPTASK -/

/-- The record of a task that a normal branch has just taken to `target` (R560). -/
def TaskRegs.jumped (t : TaskRegs) (target : RegAddr) : TaskRegs :=
  { t with pc := target, flush := 3, delayed := [] }

theorem jumpTask_rd (k : TaskId) (target : RegAddr) (c : Cog) (j : TaskId) :
    (jumpTask k target c).tasks.rd j = if j = k then (c.tasks.rd j).jumped target else c.tasks.rd j := by
  rw [jumpTask, Bank.rd_wr]
  split
  · next e => rw [e]; rfl
  · rfl

theorem jumpIfMasked_rd (mask : BitVec 4) (k : TaskId) (target : RegAddr) (c : Cog) (j : TaskId) :
    (jumpIfMasked mask k target c).tasks.rd j =
      if j = k ∧ mask.getLsbD j.toNat = true then (c.tasks.rd j).jumped target else c.tasks.rd j := by
  unfold jumpIfMasked
  split
  · next h =>
    rw [jumpTask_rd]
    by_cases e : j = k
    · rw [if_pos e, if_pos ⟨e, e ▸ h⟩]
    · rw [if_neg e, if_neg fun ⟨same, _⟩ => e same]
  · next h => rw [if_neg fun ⟨e, masked⟩ => h (e ▸ masked)]

/-- All four tasks of the mask (R363). -/
def jumpMasked (mask : BitVec 4) (target : RegAddr) (c : Cog) : Cog :=
  jumpIfMasked mask 3#2 target (jumpIfMasked mask 2#2 target (jumpIfMasked mask 1#2 target
    (jumpIfMasked mask 0#2 target c)))

theorem jumpMasked_rd (mask : BitVec 4) (target : RegAddr) (c : Cog) (j : TaskId) :
    (jumpMasked mask target c).tasks.rd j =
      if mask.getLsbD j.toNat = true then (c.tasks.rd j).jumped target else c.tasks.rd j := by
  simp only [jumpMasked, jumpIfMasked_rd]
  obtain rfl | rfl | rfl | rfl : j = 0#2 ∨ j = 1#2 ∨ j = 2#2 ∨ j = 3#2 := by
    revert j; decide
  all_goals simp

theorem jumpIfMasked_frame (mask : BitVec 4) (k : TaskId) (target : RegAddr) (c : Cog) :
    ∃ b, jumpIfMasked mask k target c = { c with tasks := b } := by
  unfold jumpIfMasked
  split
  · exact ⟨_, rfl⟩
  · exact ⟨c.tasks, rfl⟩

/-- Nothing but the tasks changes (R363). -/
theorem jumpMasked_frame (mask : BitVec 4) (target : RegAddr) (c : Cog) :
    jumpMasked mask target c = { c with tasks := (jumpMasked mask target c).tasks } := by
  obtain ⟨b0, h0⟩ := jumpIfMasked_frame mask 0#2 target c
  obtain ⟨b1, h1⟩ := jumpIfMasked_frame mask 1#2 target { c with tasks := b0 }
  obtain ⟨b2, h2⟩ := jumpIfMasked_frame mask 2#2 target { c with tasks := b1 }
  obtain ⟨b3, h3⟩ := jumpIfMasked_frame mask 3#2 target { c with tasks := b2 }
  rw [jumpMasked, h0, h1, h2, h3]

theorem exec_jmptask_ready {o : DnMaskOps} {s : State} (hr : readyDn o.cond o.d s) :
    exec (.jmptask o) s = .next (s.setCog (jumpMasked o.mask (BitVec.ofNat 9 (numberOf 9 s o.d).toNat)
      (enter (dimmReg o.d) noReg s.cog))) := by
  rw [exec_jmptask, execJmptask, runDn_ready hr, onCog, State.setCog_cog, State.setCog_setCog,
    extractLsb'_zero]
  rfl

/-- The slot of an instruction moves the PC of its task and nothing else of the tasks (R25). -/
theorem enter_tasks_rd (d x : Reg) (c : Cog) (k : TaskId) : (enter d x c).tasks.rd k =
    if k = c.cur then { c.tasks.rd k with pc := (nextPc c).1 } else c.tasks.rd k := by
  show (c.tasks.wr c.cur { c.tasks.rd c.cur with pc := (nextPc c).1 }).rd k = _
  rw [Bank.rd_wr]
  split
  · next e => rw [e]
  · rfl

/-- Settles O33: the tasks of the mask, the others, and the frame. -/
theorem jmptaskForcesTheSelectedTasks : Obligations.JmptaskForcesTheSelectedTasks := by
  intro o s hr target
  refine ⟨_, exec_jmptask_ready hr, fun k selected => ?_, fun k other => ?_,
    _, did_other (benign_id (dimmReg o.d) noReg s.cog), ?_⟩
  · rw [State.setCog_cog, jumpMasked_rd, if_pos selected, enter_tasks_rd]
    split <;> rfl
  · rw [State.setCog_cog, jumpMasked_rd, other, enter_tasks_rd]
    rfl
  · rw [State.setCog_cog, State.setCog_cog, State.setCog_setCog]
    exact congrArg s.setCog (jumpMasked_frame _ _ _)

end Sys2Proof.Machine
end

section
/-!
The start of a cycle as the tasks see it, and the slots of a task after a normal and after a delayed branch (R560,
R561).
-/
namespace Sys2Proof.Machine

/-! ### The start of a cycle -/

theorem fold_target (l : List Delayed) (pc : RegAddr) :
    l.foldl (fun _ e => e.target) pc = (l.getLast?.map (·.target)).getD pc := by
  induction l using List.reverseRecOn with
  | nil => rfl
  | append_singleton l e => rw [List.foldl_append, List.getLast?_concat]; rfl

/-- What the start of a cycle does to the task that owns it (R560, R561). -/
theorem beginSlot_rd_owner (c : Cog) : (beginSlot c).tasks.rd (slotTask c) =
    countDown (fireDelayed (c.tasks.rd (slotTask c))) := by
  rw [beginSlot_tasks, countAll_rd, Bank.rd_wr_self]

/-- What the start of a cycle does to a task that does not own it (R560, R561). -/
theorem beginSlot_rd_other {c : Cog} {k : TaskId} (h : k ≠ slotTask c) :
    (beginSlot c).tasks.rd k = countDown (c.tasks.rd k) := by
  rw [beginSlot_tasks, countAll_rd, Bank.rd_wr_ne _ _ h]

theorem beginSlot_flush (c : Cog) (k : TaskId) :
    ((beginSlot c).tasks.rd k).flush = (c.tasks.rd k).flush - 1 := by
  by_cases h : k = slotTask c
  · rw [h, beginSlot_rd_owner]; rfl
  · rw [beginSlot_rd_other h]; rfl

/-- One cycle off the count of each pending branch (R560). -/
def countedDown (q : List Delayed) : List Delayed := q.map fun e => { e with rem := e.rem - 1 }

/-- Branches that are due leave the queue of the task that owns the cycle (R561). -/
theorem beginSlot_delayed (c : Cog) (k : TaskId) : ((beginSlot c).tasks.rd k).delayed =
    countedDown (if k = slotTask c then (c.tasks.rd k).delayed.filter fun e => e.rem != 0
      else (c.tasks.rd k).delayed) := by
  by_cases h : k = slotTask c
  · rw [if_pos h, h, beginSlot_rd_owner]; rfl
  · rw [if_neg h, beginSlot_rd_other h]; rfl

/-- The last of the branches that are due gives the PC of the task that owns the cycle (R561). -/
theorem beginSlot_pc (c : Cog) (k : TaskId) : ((beginSlot c).tasks.rd k).pc =
    if k = slotTask c then
      (((c.tasks.rd k).delayed.filter fun e => e.rem == 0).getLast?.map (·.target)).getD (c.tasks.rd k).pc
    else (c.tasks.rd k).pc := by
  by_cases h : k = slotTask c
  · rw [if_pos h, h, beginSlot_rd_owner]
    exact fold_target _ _
  · rw [if_neg h, beginSlot_rd_other h]; rfl

theorem beginSlot_flags (c : Cog) (k : TaskId) :
    ((beginSlot c).tasks.rd k).z = (c.tasks.rd k).z ∧ ((beginSlot c).tasks.rd k).c = (c.tasks.rd k).c := by
  by_cases h : k = slotTask c
  · rw [h, beginSlot_rd_owner]; exact ⟨rfl, rfl⟩
  · rw [beginSlot_rd_other h]; exact ⟨rfl, rfl⟩

/-- A slot is cancelled exactly while the Flush of its task counts down (R560). -/
theorem slotCancelled_iff {c : Cog} {k : TaskId} (h : slotTask c = k) :
    slotCancelled c = true ↔ 0 < (c.tasks.rd k).flush := by
  rw [slotCancelled, h, decide_eq_true_iff]

theorem jump_rd (target : RegAddr) (c : Cog) (k : TaskId) : (jump target c).tasks.rd k =
    if k = c.cur then (c.tasks.rd k).jumped target else c.tasks.rd k := jumpTask_rd _ _ _ _

theorem jumpDelayed_rd (target : RegAddr) (c : Cog) (k : TaskId) : (jumpDelayed target c).tasks.rd k =
    if k = c.cur then { c.tasks.rd k with delayed := (c.tasks.rd k).delayed ++ [⟨target, 3⟩] }
    else c.tasks.rd k := by
  rw [jumpDelayed, Cog.setTsk_tasks, Bank.rd_wr]
  split
  · next e => rw [e]; rfl
  · rfl

/-! ### After a normal branch -/

section
variable {cog : Nat → Cog} {t : TaskId} {target : RegAddr} {n : Nat}

/-- `m` cycles after a normal branch the task stands at the target with `3 - m` slots still to lose. -/
theorem branched_rd {r : TaskRegs} (start : (cog 0).tasks.rd t = r.jumped target)
    (run : ∀ m < n, (cog (m + 1)).tasks.rd t = (beginSlot (cog m)).tasks.rd t) :
    ∀ m ≤ n, (cog m).tasks.rd t = { r.jumped target with flush := 3 - m } := by
  intro m
  induction m with
  | zero => intro _; rw [start]; rfl
  | succ m ih =>
    intro hm
    rw [run m hm]
    by_cases own : t = slotTask (cog m)
    · subst own
      rw [beginSlot_rd_owner, ih (Nat.le_of_lt hm)]
      rfl
    · rw [beginSlot_rd_other own, ih (Nat.le_of_lt hm)]
      rfl

/-- The first three slots of the task are cancelled, and the next one stands at the target (R560). -/
theorem branched_slot {r : TaskRegs} (start : (cog 0).tasks.rd t = r.jumped target)
    (run : ∀ m < n, (cog (m + 1)).tasks.rd t = (beginSlot (cog m)).tasks.rd t) (own : slotTask (cog n) = t) :
    (n < 3 → slotCancelled (cog n) = true) ∧
    (3 ≤ n → slotCancelled (cog n) = false ∧ ((beginSlot (cog n)).tasks.rd t).pc = target ∧
      ((beginSlot (cog n)).tasks.rd t).delayed = []) := by
  have now := branched_rd start run n le_rfl
  refine ⟨fun hn => ?_, fun hn => ⟨?_, ?_, ?_⟩⟩
  · rw [slotCancelled_iff own, now]
    exact Nat.sub_pos_of_lt hn
  · rw [← Bool.not_eq_true, slotCancelled_iff own, now]
    exact Nat.not_lt.2 (Nat.sub_eq_zero_of_le hn).le
  · rw [beginSlot_pc, now, if_pos own.symm]
    rfl
  · rw [beginSlot_delayed, now, if_pos own.symm]
    rfl

end

/-! ### After a delayed branch -/

/-- The queue `m` cycles after a delayed branch to `target`: what was in it before, `old`, comes first and
is due no later. -/
def Queued (old : List Delayed) (target : RegAddr) (m : Nat) (q : List Delayed) : Prop :=
  ∃ l, q = l ++ [⟨target, 3 - m⟩] ∧ (∀ e ∈ l, e.rem ≤ 3 - m) ∧ (old = [] → l = [])

section
variable {old q : List Delayed} {target : RegAddr} {m : Nat}

theorem Queued.countedDown (h : Queued old target m q) : Queued old target (m + 1) (countedDown q) := by
  obtain ⟨l, rfl, bound, empty⟩ := h
  refine ⟨Machine.countedDown l, List.map_append, fun e he => ?_, fun ho => by rw [empty ho]; rfl⟩
  obtain ⟨b, hb, rfl⟩ := List.mem_map.1 he
  exact Nat.sub_le_sub_right (bound b hb) 1

/-- Before the third cycle is over the branch itself is not due, so that it stays in the queue. -/
theorem Queued.filter (h : Queued old target m q) (hm : m < 3) :
    Queued old target m (q.filter fun e => e.rem != 0) := by
  obtain ⟨l, rfl, bound, empty⟩ := h
  refine ⟨l.filter fun e => e.rem != 0, ?_, fun e he => bound e (List.mem_filter.1 he).1,
    fun ho => by rw [empty ho]; rfl⟩
  have waits : 3 - m ≠ 0 := Nat.sub_ne_zero_of_lt hm
  rw [List.filter_append, List.filter_singleton, bne_iff_ne.2 waits, cond_true]

/-- Where nothing was in the queue before, nothing is due in the first three cycles. -/
theorem Queued.none_due (h : Queued [] target m q) (hm : m < 3) :
    (q.filter fun e => e.rem == 0) = [] := by
  obtain ⟨l, rfl, -, empty⟩ := h
  have waits : 3 - m ≠ 0 := Nat.sub_ne_zero_of_lt hm
  rw [empty rfl, List.nil_append, List.filter_singleton, beq_eq_false_iff_ne.2 waits, cond_false]

/-- From the fourth cycle on the whole queue is due, and its last branch is the one to `target`. -/
theorem Queued.all_due (h : Queued old target m q) (hm : 3 ≤ m) :
    (q.filter fun e => e.rem == 0).getLast? = some ⟨target, 0⟩ ∧ (q.filter fun e => e.rem != 0) = [] := by
  obtain ⟨l, rfl, bound, -⟩ := h
  rw [Nat.sub_eq_zero_of_le hm] at bound ⊢
  have due : ∀ e ∈ l ++ [⟨target, 0⟩], e.rem = 0 := fun e he => by
    rcases List.mem_append.1 he with he | he
    · exact Nat.le_zero.1 (bound e he)
    · rw [List.mem_singleton.1 he]
  constructor
  · rw [List.filter_eq_self.2 fun e he => beq_iff_eq.2 (due e he), List.getLast?_concat]
  · exact List.filter_eq_nil_iff.2 fun e he => by rw [bne_iff_ne, due e he]; exact not_not_intro rfl

end

section
variable {cog : Nat → Cog} {t : TaskId} {old : List Delayed} {target : RegAddr} {n : Nat}

theorem flush_stays_zero (start : ((cog 0).tasks.rd t).flush = 0)
    (run : ∀ m < n, ((cog (m + 1)).tasks.rd t).flush = ((beginSlot (cog m)).tasks.rd t).flush) :
    ∀ m ≤ n, ((cog m).tasks.rd t).flush = 0 := by
  intro m
  induction m with
  | zero => exact fun _ => start
  | succ m ih => intro hm; rw [run m hm, beginSlot_flush, ih (Nat.le_of_lt hm)]

/-- Until the first slot of the task from the fourth cycle on the delayed branch waits in the queue. -/
theorem queued_until_due (start : Queued old target 0 ((cog 0).tasks.rd t).delayed)
    (run : ∀ m < n, ((cog (m + 1)).tasks.rd t).delayed = ((beginSlot (cog m)).tasks.rd t).delayed)
    (first : ∀ m, 3 ≤ m → m < n → slotTask (cog m) ≠ t) :
    ∀ m ≤ n, Queued old target m ((cog m).tasks.rd t).delayed := by
  intro m
  induction m with
  | zero => exact fun _ => start
  | succ m ih =>
    intro hm
    have before := ih (Nat.le_of_lt hm)
    rw [run m hm, beginSlot_delayed]
    split
    · next own =>
      have early : m < 3 := Nat.lt_of_not_le fun late => first m late hm own.symm
      exact (before.filter early).countedDown
    · exact before.countedDown

end

/-- Settles O49: the start of a cycle, the two kinds of branch, and the runs after each of them. -/
theorem branchShadowAndDelay : Obligations.BranchShadowAndDelay := by
  refine ⟨fun c k => ?_, fun c target k => ⟨jump_rd target c k, jumpDelayed_rd target c k⟩,
    fun c target cog n => ?_⟩
  · obtain ⟨flagZ, flagC⟩ := beginSlot_flags c k
    exact ⟨rfl, fun mine => slotCancelled_iff mine.symm, flagZ, flagC, beginSlot_flush c k,
      beginSlot_pc c k, beginSlot_delayed c k⟩
  intro t after own
  refine ⟨fun start run => ?_, fun start flush old run => ?_⟩
  · refine branched_slot (r := c.tasks.rd t) ?_ run own
    rw [start, jump_rd, if_pos rfl]
  have begun : (cog 0).tasks.rd t = { c.tsk with delayed := c.tsk.delayed ++ [⟨target, 3⟩] } := by
    rw [start, jumpDelayed_rd, if_pos rfl]
    rfl
  have start : Queued c.tsk.delayed target 0 ((cog 0).tasks.rd t).delayed := by
    rw [begun]
    exact ⟨_, rfl, old, id⟩
  have waits := queued_until_due start fun m hm => (run m hm).2
  refine ⟨?_, fun hn empty => ?_, fun hn first => ?_⟩
  · rw [← Bool.not_eq_true, slotCancelled_iff own,
      flush_stays_zero (by rw [begun]; exact flush) (fun m hm => (run m hm).1) n le_rfl]
    exact lt_irrefl 0
  · have now := waits (fun m late hm => absurd (hm.trans hn) (Nat.not_lt.2 late)) n le_rfl
    rw [empty] at now
    show ((beginSlot (cog n)).tasks.rd t).pc = _
    rw [beginSlot_pc, if_pos own.symm, now.none_due hn]
    rfl
  · obtain ⟨last, rest⟩ := (waits first n le_rfl).all_due hn
    constructor
    · show ((beginSlot (cog n)).tasks.rd t).pc = _
      rw [beginSlot_pc, if_pos own.symm, last]
      rfl
    · show ((beginSlot (cog n)).tasks.rd t).delayed = _
      rw [beginSlot_delayed, if_pos own.symm, rest]
      rfl

end Sys2Proof.Machine
end

section
/-!
Waits that may not end yet (R595 to R598, R633, R634, R659, R686, R706), and how far time passes while COGs
wait for CNT (R596, R791).
-/
namespace Sys2Proof.Machine

/-! ### The instruction that waits -/

/-- The half of a count of clocks that a WAITCNT tests (R596). -/
def halfOf (high : Bool) (n : Nat) : Nat := if high then n % 2 ^ 64 / 2 ^ 32 else n % 2 ^ 32

/-- The half of CNT, `k` clocks on, as a number. -/
theorem half_after_eq (high : Bool) (cnt : BitVec 64) (k : Nat) (v : Word) :
    (cnt + BitVec.ofNat 64 k).extractLsb' (if high then 32 else 0) 32 = v ↔
      halfOf high (cnt.toNat + k) = v.toNat := by
  rw [cntHalf_eq, halfOf]
  cases high
  · simp only [Bool.false_eq_true, if_false]
    omega
  · simp only [if_true]
    omega

/-- A WAITCNT is over exactly when its half of CNT equals the target (R596). -/
theorem clocksUntil_eq_zero_iff (high : Bool) (cnt : BitVec 64) (v : Word) :
    clocksUntil high cnt v = 0 ↔ halfOf high cnt.toNat = v.toNat := by
  have now := half_after_eq high cnt 0 v
  rw [BitVec.add_zero, Nat.add_zero] at now
  rw [clocksUntil_eq_zero, now]

theorem waitcnt_stalls {o : WaitCOps} {s : State} (hr : readyDS true o.cond o.d o.s s)
    (h : halfOf o.high s.cnt.toNat ≠
      (heldOr s (valueOf s o.d) (sourceOf s o.s) (some o.high)).d.toNat) :
    exec (.waitcnt o) s =
      .next (stallWith (heldOr s (valueOf s o.d) (sourceOf s o.s) (some o.high)) s) := by
  rw [exec_waitcnt, execWaitcnt, runDS_ready hr]
  exact if_neg (mt (clocksUntil_eq_zero_iff _ _ _).1 h)

/-- WAITPEQ and WAITPNE, whose test gives the wrong answer (R597, R598). -/
theorem waitPins_stalls {mk : DSOps → Instr} {equal : Bool}
    (h : ∀ o s, exec (mk o) s = waitPins equal o s) {o : DSOps} {s : State}
    (hr : readyDS true o.cond o.d o.s s) {x : Held} (hx : heldOr s (valueOf s o.d) (sourceOf s o.s) = x)
    (test : ¬ (pinsUnder s x.s = x.d ↔ equal = true)) : exec (mk o) s = .next (stallWith x s) := by
  subst hx
  rw [h, waitPins, runDS_ready hr]
  refine if_neg fun e => test ?_
  rw [← e, beq_iff_eq]

theorem waitvid_stalls {o : DSOps} {s : State} (hr : readyDS true o.cond o.d o.s s)
    (h : s.inputs.vidReady = false) :
    exec (.waitvid o) s = .next (stallWith (heldOr s (valueOf s o.d) (sourceOf s o.s)) s) := by
  rw [exec_waitvid, execWaitvid, runDS_ready hr, h]
  rfl

theorem sndser_stalls {o : DCOps} {s : State} (hr : readyD true o.cond o.d s)
    (h : s.inputs.serTxReady = false) (hc : o.c = false) :
    exec (.sndser o) s = .next (stallWith (heldOr s (valueOf s o.d) 0#32) s) := by
  rw [exec_sndser, execSndser, runD_ready hr, h, hc]
  rfl

theorem rcvser_stalls {o : DZCOps} {s : State} (hr : readyD false o.cond o.d s)
    (h : s.inputs.serRxReady = false) (hc : o.c = false) : exec (.rcvser o) s = .next (stall s) := by
  rw [exec_rcvser, execRcvser, runD_ready hr, h, hc]
  rfl

theorem synctra_stalls {o : IgnOps} {s : State} (hr : readyPlain o.cond s)
    (h : (s.cog.ctra.running && s.inputs.wrapa) = false) : exec (.synctra o) s = .next (stall s) := by
  rw [exec_synctra, execSynctra, runPlain_ready hr, h]
  rfl

theorem synctrb_stalls {o : IgnOps} {s : State} (hr : readyPlain o.cond s)
    (h : (s.cog.ctrb.running && s.inputs.wrapb) = false) : exec (.synctrb o) s = .next (stall s) := by
  rw [exec_synctrb, execSynctrb, runPlain_ready hr, h]
  rfl

/-! ### Time -/

/-- A running COG waits in a WAITCNT for half `high` of CNT to become `v` (R596). -/
def AwaitsCnt (c : Cog) (high : Bool) (v : Word) : Prop :=
  c.run = .running ∧ ∃ x, c.held = some ⟨v, x, some high⟩

/-- The WAITCNT in which COG `n` waits is over. -/
def WaitEnded (s : State) (n : CogId) : Prop :=
  ∃ high v, AwaitsCnt (s.cogs.rd n) high v ∧ halfOf high s.cnt.toNat = v.toNat

theorem AwaitsCnt.clocksAwaited {c : Cog} {high : Bool} {v : Word} (h : AwaitsCnt c high v)
    (cnt : BitVec 64) : clocksAwaited cnt c = some (clocksUntil high cnt v) := by
  obtain ⟨run, x, held⟩ := h
  rw [Machine.clocksAwaited, if_pos run, held]
  rfl

theorem awaitsCnt_of_clocksAwaited {c : Cog} {cnt : BitVec 64} {k : Nat} (h : clocksAwaited cnt c = some k) :
    ∃ high v, AwaitsCnt c high v ∧ clocksUntil high cnt v = k := by
  rw [clocksAwaited] at h
  split at h
  · next run =>
    obtain ⟨⟨v, x, half⟩, held, h⟩ := Option.bind_eq_some_iff.1 h
    obtain ⟨high, rfl, until_⟩ := Option.map_eq_some_iff.1 h
    exact ⟨high, v, ⟨run, x, held⟩, until_⟩
  · cases h

theorem waitEnded_iff (s : State) (n : CogId) :
    WaitEnded s n ↔ clocksAwaited s.cnt (s.cogs.rd n) = some 0 := by
  constructor
  · rintro ⟨high, v, waits, equal⟩
    rw [waits.clocksAwaited, (clocksUntil_eq_zero_iff _ _ _).2 equal]
  · intro h
    obtain ⟨high, v, waits, ended⟩ := awaitsCnt_of_clocksAwaited h
    exact ⟨high, v, waits, (clocksUntil_eq_zero_iff _ _ _).1 ended⟩

theorem mem_dueCogs (s : State) (n : CogId) : n ∈ dueCogs s ↔ WaitEnded s n := by
  rw [waitEnded_iff, dueCogs, List.mem_filter, beq_iff_eq, and_iff_right_iff_imp]
  exact fun _ => List.mem_map.2 ⟨n.toNat, List.mem_range.2 n.isLt, by simp⟩

/-- Where a WAITCNT is over, a COG of which it is steps next (R596). -/
theorem waitEnded_nextTurn {s : State} (h : ∃ n, WaitEnded s n) : WaitEnded s (nextTurn s) := by
  obtain ⟨n, hn⟩ := h
  rw [← mem_dueCogs] at hn ⊢
  unfold nextTurn
  split
  · next e => exact e ▸ List.mem_cons_self
  · next e => rw [e] at hn; cases hn

/-- All the clocks pass, or as many as a WAITCNT still waits for. -/
theorem clocksThatPass_cases (most : Nat) (s : State) : clocksThatPass most s = most ∨
    ∃ n, clocksAwaited s.cnt (s.cogs.rd n) = some (clocksThatPass most s) := by
  have fold : ∀ (l : List Nat) (m : Nat), l.foldl min m = m ∨ l.foldl min m ∈ l := by
    intro l
    induction l with
    | nil => exact fun _ => .inl rfl
    | cons a l ih =>
      intro m
      rcases ih (min m a) with h | h
      · rcases min_choice m a with e | e
        · exact .inl (h.trans e)
        · exact .inr (List.mem_cons.2 (.inl (h.trans e)))
      · exact .inr (List.mem_cons_of_mem a h)
  rcases fold _ most with h | h
  · exact .inl h
  · obtain ⟨n, -, hn⟩ := List.mem_filterMap.1 h
    exact .inr ⟨_, hn⟩

/-- The clocks that pass go by no end of a WAITCNT (R596, R791). -/
theorem AwaitsCnt.not_passed {s : State} {n : CogId} {high : Bool} {v : Word}
    (h : AwaitsCnt (s.cogs.rd n) high v) {most j : Nat} (hj : j < clocksThatPass most s) :
    halfOf high (s.cnt.toNat + j) ≠ v.toNat := by
  have bound := (clocksThatPass_le most s).2 n _ (h.clocksAwaited s.cnt)
  have before := (clocksUntil_spec high s.cnt v).2 j (hj.trans_le bound)
  rwa [ne_eq, half_after_eq] at before

/-- One clock passes, or none because a WAITCNT ends now (R596). -/
theorem passTime_one_cnt (s : State) : (passTime 1#64 s).cnt = s.cnt + 1#64 ∨
    (passTime 1#64 s).cnt = s.cnt ∧ ∃ n, WaitEnded (passTime 1#64 s) n := by
  have cnt : (passTime 1#64 s).cnt = s.cnt + BitVec.ofNat 64 (clocksThatPass 1 s) := rfl
  have le : clocksThatPass 1 s ≤ 1 := (clocksThatPass_le 1 s).1
  by_cases one : clocksThatPass 1 s = 1
  · exact .inl (by rw [cnt, one])
  have zero : clocksThatPass 1 s = 0 := by omega
  rw [zero, BitVec.add_zero] at cnt
  obtain ⟨n, hn⟩ := (clocksThatPass_cases 1 s).resolve_left one
  refine .inr ⟨cnt, n, ?_⟩
  rw [waitEnded_iff, cnt, ← zero]
  exact hn

/-- Settles O37: the waiting instructions, the step of a COG that waits, and time. -/
theorem waitsStallOtherwise : Obligations.WaitsStallOtherwise := by
  refine ⟨fun o s hr => waitcnt_stalls hr, fun o s hr => ⟨fun h => ?_, fun h => ?_, waitvid_stalls hr⟩,
    fun o s hr => sndser_stalls hr, fun o s hr => rcvser_stalls hr,
    fun o s hr => ⟨synctra_stalls hr, synctrb_stalls hr⟩, fun s t run nops done stalled => ?_,
    fun clocks s => ?_⟩
  · exact waitPins_stalls exec_waitpeq hr rfl fun e => h (e.2 rfl)
  · exact waitPins_stalls exec_waitpne hr rfl fun e => nomatch e.1 h
  · refine ⟨waitTick t.cog.held s, ?_, passTime_one_cnt _, rfl, rfl, rfl, rfl, rfl,
      setCog_cogs_turn s _, fun n hn => State.setCog_other s _ hn⟩
    rw [step_of_cycle run nops done, if_pos stalled]
  · exact ⟨clocksThatPass clocks.toNat s, (clocksThatPass_le _ s).1, rfl, rfl,
      fun n high v waits j => AwaitsCnt.not_passed waits,
      waitEnded_nextTurn (s := advanceCnt clocks s)⟩

end Sys2Proof.Machine
end


section
/-!
The multiplier, the accumulators and CNT: MUL, SCL, MACx, SETACCx, CLRACCx, FITACCx, GETACCx, GETCNT, SUBCNT and
GETLFSR (R390 to R409).
-/
namespace Sys2Proof.Machine

/-! ### The product (R400) -/

theorem low24_eq (v : Word) : low24 v = v.toNat % 2 ^ 24 := by
  rw [low24, BitVec.extractLsb'_toNat, Nat.shiftRight_zero]

/-- The product has 48 bits, so the 64 bits of the model hold it. -/
theorem product_toNat (d s : Word) :
    (product d s).toNat = d.toNat % 2 ^ 24 * (s.toNat % 2 ^ 24) := by
  have le : d.toNat % 2 ^ 24 * (s.toNat % 2 ^ 24) ≤ 2 ^ 24 * 2 ^ 24 :=
    Nat.mul_le_mul (Nat.mod_lt _ (by decide)).le (Nat.mod_lt _ (by decide)).le
  rw [product, low24_eq, low24_eq, BitVec.toNat_ofNat, Nat.mod_eq_of_lt (by omega)]

theorem mulFn_eq (d s : Word) :
    mulFn d s = BitVec.ofNat 32 (d.toNat % 2 ^ 24 * (s.toNat % 2 ^ 24)) := by
  rw [mulFn, extractLsb'_zero, product_toNat]

theorem sclFn_eq (d s : Word) :
    sclFn d s = BitVec.ofNat 32 (d.toNat % 2 ^ 24 * (s.toNat % 2 ^ 24) / 2 ^ 16) := by
  apply BitVec.eq_of_toNat_eq
  rw [sclFn, BitVec.extractLsb'_toNat, product_toNat, Nat.shiftRight_eq_div_pow, BitVec.toNat_ofNat]

theorem add_macFn (acc : BitVec 64) (d s : Word) :
    acc + macFn d s = BitVec.ofNat 64 (acc.toNat + d.toNat % 2 ^ 24 * (s.toNat % 2 ^ 24)) := by
  apply BitVec.eq_of_toNat_eq
  rw [macFn, BitVec.toNat_add, product_toNat, BitVec.toNat_ofNat]

theorem append_words (s d : Word) : s ++ d = BitVec.ofNat 64 (s.toNat * 2 ^ 32 + d.toNat) := by
  rw [← toNat_append_eq_add, BitVec.ofNat_toNat, BitVec.setWidth_eq]

/-- MUL and SCL complete: D is written whatever R is (R394, R395). -/
theorem mulWith_completes {mk : MulOps → Instr} {f g : Word → Word → Word}
    (h : ∀ o s, exec (mk o) s = mulWith g o s) (hg : ∀ d s, g d s = f d s) {o : MulOps} {s : State}
    (hr : readyDS true o.cond o.d o.s s) :
    Completes (mk o) o.d (srcReg o.s)
      (resultEffect o.z false true (addrOf s o.d) (f (valueOf s o.d) (sourceOf s o.s))
        (decide (f (valueOf s o.d) (sourceOf s o.s) = 0#32)) false) s := by
  refine delivers_completes (benign_id _ _ _) ?_
  rw [h, mulWith, runDS_ready hr, onCog, State.setCog_cog, State.setCog_setCog, hg]
  rfl

/-- An accumulator becomes a function of itself, D and S (R396 to R399). -/
theorem accumulator_does {mk : DSOps → Instr} {f g : Word → Word → Cog → Cog}
    (h : ∀ o s, exec (mk o) s = runDS true o.cond o.d o.s s fun _ dv sv => onCog (f dv sv))
    (hg : ∀ u v c, g u v c = f u v c) (hb : ∀ u v d x (s : State), Benign (f u v) d x s.cog) :
    DsDoes mk fun _ d s => { cog := g d s } := by
  have : g = f := by funext u v c; exact hg u v c
  exact this ▸ ds_does h hb

/-- Settles O9, instruction by instruction. -/
theorem multiplyAndAccumulateResults : Obligations.MultiplyAndAccumulateResults := by
  refine ⟨fun o s hr => mulWith_completes exec_mul mulFn_eq hr,
    fun o s hr => mulWith_completes exec_scl sclFn_eq hr,
    accumulator_does exec_maca (fun _ _ _ => by rw [paramsSpec_macFn, add_macFn]) ?_,
    accumulator_does exec_macb (fun _ _ _ => by rw [paramsSpec_macFn, add_macFn]) ?_,
    accumulator_does exec_setacca (fun _ _ _ => by rw [append_words]) ?_,
    accumulator_does exec_setaccb (fun _ _ _ => by rw [append_words]) ?_⟩
  all_goals
    intro u v d x s
    constructor <;> rfl

/-! ### Clearing and justifying (R402 to R407) -/

theorem size_eq_log2_succ {n : Nat} (h : n ≠ 0) : n.size = n.log2 + 1 :=
  Nat.le_antisymm (Nat.size_le.2 Nat.lt_log2_self) (Nat.lt_size.2 (Nat.log2_self_le h))

/-- The shift count is the number of significant bits above 32 (R405). -/
theorem fitCount_eq (v : BitVec 64) : fitCount v = v.toNat.size - 32 := by
  have high : v.extractLsb' 32 32 = 0#32 ↔ v.toNat < 2 ^ 32 := by
    have lt := v.isLt
    rw [← BitVec.toNat_inj, BitVec.extractLsb'_toNat, Nat.shiftRight_eq_div_pow, BitVec.toNat_ofNat]
    omega
  rw [fitCount]
  split
  next small => exact (Nat.sub_eq_zero_of_le (Nat.size_le.2 (high.1 small))).symm
  next large =>
    have ne : v.toNat ≠ 0 := fun zero => large (high.2 (by omega))
    rw [size_eq_log2_succ ne, Nat.add_sub_add_right _ 1 31]

theorem fitTo_eq (n : Nat) (v : BitVec 64) (hn : n < 2 ^ 32) :
    fitTo n v = BitVec.ofNat 64 (n * 2 ^ 32 + v.toNat / 2 ^ n % 2 ^ 32) := by
  rw [fitTo, append_words, BitVec.toNat_ofNat, Nat.mod_eq_of_lt hn, BitVec.extractLsb'_toNat,
    Nat.shiftRight_zero, BitVec.toNat_ushiftRight, Nat.shiftRight_eq_div_pow]

theorem fitCount_lt (v : BitVec 64) : v.toNat.size - 32 < 2 ^ 32 := by
  have : v.toNat.size ≤ 64 := Nat.size_le.2 v.isLt
  omega

/-- An instruction on the accumulators alone (R402 to R407). -/
theorem accumulators_does {mk : SelOps → Instr} {f g : Cog → Cog}
    (h : ∀ o s, exec (mk o) s = runPlain o.cond s (onCog f)) (hg : ∀ c, g c = f c)
    (hb : ∀ s : State, Benign f noReg noReg s.cog) : PlainDoes mk (·.cond) fun _ _ => { cog := g } := by
  have : g = f := funext hg
  exact this ▸ plain_does h hb

/-- Settles O10, instruction by instruction. -/
theorem clearAndFitAccumulators : Obligations.ClearAndFitAccumulators := by
  refine ⟨plain_does exec_clracca ?_, plain_does exec_clraccb ?_, plain_does exec_clraccs ?_,
    accumulators_does exec_fitacca (fun c => ?_) ?_, accumulators_does exec_fitaccb (fun c => ?_) ?_,
    accumulators_does exec_fitaccs (fun c => ?_) ?_⟩
  case refine_4 => rw [paramsSpec_fitCount, fitCount_eq, fitTo_eq _ _ (fitCount_lt _)]
  case refine_6 => rw [paramsSpec_fitCount, fitCount_eq, fitTo_eq _ _ (fitCount_lt _)]
  case refine_8 =>
    simp only [paramsSpec_fitCount, fitCount_eq, fitTo_eq _ _ (max_lt (fitCount_lt _) (fitCount_lt _))]
  all_goals
    intro s
    constructor <;> rfl

/-! ### Reading CNT and the accumulators (R391 to R393, R401, R408, R409) -/

theorem high_long (v : BitVec 64) : v.extractLsb' 32 32 = BitVec.ofNat 32 (v.toNat / 2 ^ 32) := by
  apply BitVec.eq_of_toNat_eq
  rw [BitVec.extractLsb'_toNat, Nat.shiftRight_eq_div_pow, BitVec.toNat_ofNat]

theorem low_long_sub (v w : BitVec 64) :
    (v - w).extractLsb' 0 32 = BitVec.ofInt 32 ((v.toNat : Int) - w.toNat) := by
  have := v.isLt
  have := w.isLt
  apply BitVec.eq_of_toNat_eq
  rw [extractLsb'_zero, BitVec.toNat_sub, BitVec.toNat_ofNat, BitVec.toNat_ofInt]
  omega

/-- A read in two phases completes: the high long `hi` where the phase is `p`, the low long `lo` and a change `g`
otherwise (R391, R408, R409). -/
theorem phasedRead_does {mk : DZROps → Instr} (phase : Cog → Bool) (lo hi : State → Word)
    (g : State → Cog → Cog)
    (h : ∀ o s, readyD false o.cond o.d s → exec (mk o) s = .next (s.setCog (
      if phase s.cog then deliver o.z o.r (addrOf s o.d) (hi s) (enter o.d noReg s.cog)
      else deliver o.z o.r (addrOf s o.d) (lo s) (g s (enter o.d noReg s.cog)))))
    (hb : ∀ d s, Benign (g s) d noReg s.cog) :
    DzrDoes mk false (fun s _ => if phase s.cog then hi s else lo s)
      fun s c => if phase s.cog then c else g s c := by
  refine dzr_does (fun o s hr => ?_) fun d s => ?_
  · rw [h o s hr]
    split
    · rfl
    · rfl
  · by_cases hp : phase s.cog = true
    · simp only [hp, if_true]
      exact benign_id d noReg s.cog
    · simp only [hp]
      exact hb d s

/-- Settles O11, instruction by instruction. -/
theorem counterAndAccumulatorReads : Obligations.CounterAndAccumulatorReads := by
  refine ⟨phasedRead_does (·.cntPhase) (fun s => BitVec.ofNat 32 s.cnt.toNat)
      (fun s => BitVec.ofNat 32 (s.cog.cntl.toNat / 2 ^ 32))
      (fun s c => { c with cntl := s.cnt, cntPhase := true }) (fun o s hr => ?_) fun d s => ?_,
    phasedRead_does (·.accaPhase) (fun s => BitVec.ofNat 32 s.cog.acca.toNat)
      (fun s => BitVec.ofNat 32 (s.cog.acca.toNat / 2 ^ 32))
      (fun _ c => { c with accaPhase := true }) (fun o s hr => ?_) fun d s => ?_,
    phasedRead_does (·.accbPhase) (fun s => BitVec.ofNat 32 s.cog.accb.toNat)
      (fun s => BitVec.ofNat 32 (s.cog.accb.toNat / 2 ^ 32))
      (fun _ c => { c with accbPhase := true }) (fun o s hr => ?_) fun d s => ?_,
    getValue_does (mk := .subcnt) (fun o s => ?_) fun s d => by rw [State.setCog_cog]; rfl,
    getValue_does exec_getlfsr fun _ _ => rfl⟩
  · rw [exec_getcnt, execGetcnt, runD_ready hr]
    split
    · rw [onCog, State.setCog_cog, State.setCog_setCog, high_long]; rfl
    · rw [onCog, State.setCog_cog, State.setCog_setCog, extractLsb'_zero]; rfl
  · constructor <;> rfl
  · rw [exec_getacca, execGetacca, runD_ready hr, onCog, State.setCog_cog, State.setCog_setCog, high_long,
      extractLsb'_zero]
    rfl
  · constructor <;> rfl
  · rw [exec_getaccb, execGetaccb, runD_ready hr, onCog, State.setCog_cog, State.setCog_setCog, high_long,
      extractLsb'_zero]
    rfl
  · constructor <;> rfl
  · simp only [exec_subcnt, execSubcnt, low_long_sub]

end Sys2Proof.Machine
end

section
/-!
The flags through D (PUSHZC, POPZC, SETZC) and the instructions on one bit of D (R440 to R451).
-/
namespace Sys2Proof.Machine

/-! ### PUSHZC, POPZC and SETZC (R440 to R442) -/

theorem ite_eq_toNat (b : Bool) : (if b then 1 else 0) = b.toNat := by
  cases b
  · rfl
  · rfl

theorem pushzcVal_eq (d : Word) (z c : Bool) : pushzcVal d z c =
    BitVec.ofNat 32 (d.toNat * 4 + 2 * (if z then 1 else 0) + if c then 1 else 0) := by
  have number : (pushzcVal d z c).toNat = d.toNat % 2 ^ 30 * 4 + z.toNat * 2 + c.toNat := by
    simp only [pushzcVal, toNat_append_eq_add, BitVec.toNat_ofBool, BitVec.extractLsb'_toNat, Nat.shiftRight_zero]
    omega
  have := z.toNat_le
  have := c.toNat_le
  apply BitVec.eq_of_toNat_eq
  rw [number, BitVec.toNat_ofNat, ite_eq_toNat, ite_eq_toNat]
  omega

theorem popzcVal_eq (d : Word) (z c : Bool) : popzcVal d z c =
    BitVec.ofNat 32 ((if z then 1 else 0) * 2 ^ 31 + (if c then 1 else 0) * 2 ^ 30 + d.toNat / 4) := by
  have lt := d.isLt
  have number : (popzcVal d z c).toNat = z.toNat * 2 ^ 31 + c.toNat * 2 ^ 30 + d.toNat / 4 := by
    simp only [popzcVal, toNat_append_eq_add, BitVec.toNat_ofBool, BitVec.extractLsb'_toNat,
      Nat.shiftRight_eq_div_pow]
    omega
  have := z.toNat_le
  have := c.toNat_le
  apply BitVec.eq_of_toNat_eq
  rw [number, BitVec.toNat_ofNat, ite_eq_toNat, ite_eq_toNat]
  omega

/-- Settles O14, instruction by instruction. -/
theorem flagInstructionResults : Obligations.FlagInstructionResults := by
  refine ⟨fun o s hr => ⟨_, ?_, did_result (benign_id o.d noReg s.cog) o.r o.z o.c _ _ _ _⟩,
    fun o s hr => ⟨_, ?_, did_result (benign_id o.d noReg s.cog) o.r o.z o.c _ _ _ _⟩,
    fun o s hr => ⟨_, ?_, did_result (benign_id (dimmReg o.d) noReg s.cog) false o.z o.c 0#9 0#32 _ _⟩⟩
  · rw [exec_pushzc, execPushzc, runD_ready hr, onCog, State.setCog_cog, State.setCog_setCog, pushzcVal_eq,
      enter_flagZ, enter_flagC]
    rfl
  · rw [exec_popzc, execPopzc, runD_ready hr, onCog, State.setCog_cog, State.setCog_setCog, popzcVal_eq,
      enter_flagZ, enter_flagC]
    rfl
  · rw [exec_setzc, execSetzc, runDn_ready hr, onCog, State.setCog_cog, State.setCog_setCog]
    rfl

/-! ### One bit of D (R443 to R451) -/

theorem bitMask_bit (b : BitVec 5) {i : Nat} (hi : i < 32) : (bitMask b)[i] = decide (i = b.toNat) := by
  rw [bitMask, BitVec.getElem_shiftLeft, BitVec.getElem_one]
  by_cases below : i < b.toNat
  · simp [below, below.ne]
  · simp only [below, decide_false, Bool.not_false, Bool.true_and, decide_eq_decide]
    omega

theorem putBit_bit (d : Word) (b : BitVec 5) (x : Bool) {i : Nat} (hi : i < 32) :
    (putBit d b x)[i] = if i = b.toNat then x else d[i] := by
  have one : bitWord x <<< b.toNat = if x then bitMask b else 0#32 := by
    cases x
    · exact BitVec.zero_shiftLeft _
    · rfl
  rw [putBit, one, BitVec.getElem_or, BitVec.getElem_and, BitVec.getElem_not, bitMask_bit]
  by_cases here : i = b.toNat
  · cases x
    · simp [here]
    · simp [here, bitMask_bit]
  · cases x
    · simp [here]
    · simp [here, bitMask_bit]

/-- A bit instruction completes, given that its meaning `g` changes one bit to what `f` gives for that bit, Z and C
(R451). -/
theorem bitOp_does {mk : DBitOps → Instr} {g : Word → BitVec 5 → Bool → Bool → Word}
    (h : ∀ o s, exec (mk o) s = bitOp g o s) (f : Bool → Bool → Bool → Bool) (keep : Bool)
    (hg : ∀ d b z c i, ∀ hi : i < 32, (g d b z c)[i] = if i = b.toNat then f d[i] z c else keep && d[i])
    (o : DBitOps) (s : State) (hr : readyD true o.cond o.d s) :
    let d := valueOf s o.d
    let v : Word := BitVec.ofFnLE fun i : Fin 32 =>
      if i.val = o.b.toNat then f (d.getLsbD i) s.cog.flagZ s.cog.flagC else keep && d.getLsbD i
    Completes (mk o) o.d noReg
      (resultEffect o.z false o.r (addrOf s o.d) v (decide (v = 0#32)) false) s := by
  intro d v
  have value : g d o.b s.cog.flagZ s.cog.flagC = v := by
    ext i hi
    rw [hg, BitVec.getElem_ofFnLE]
    rfl
  refine ⟨_, ?_, did_result (benign_id o.d noReg s.cog) o.r o.z false _ _ _ false⟩
  rw [h, bitOp, runD_ready hr, onCog, State.setCog_cog, State.setCog_setCog, enter_flagZ, enter_flagC, value,
    deliver, beq_eq_decide]
  rfl

/-- Settles O15: the bits of each instruction's result. -/
theorem bitInstructionResults : Obligations.BitInstructionResults := by
  refine ⟨bitOp_does exec_isob (fun x _ _ => x) false fun d b _ _ i hi => ?_,
    bitOp_does exec_notb (fun x _ _ => !x) true fun d b _ _ i hi => ?_,
    bitOp_does exec_clrb (fun _ _ _ => false) true fun d b _ _ i hi => ?_,
    bitOp_does exec_setb (fun _ _ _ => true) true fun d b _ _ i hi => ?_,
    bitOp_does exec_setbc (fun _ _ c => c) true fun d b _ c _ => putBit_bit d b c,
    bitOp_does exec_setbnc (fun _ _ c => !c) true fun d b _ c _ => putBit_bit d b !c,
    bitOp_does exec_setbz (fun _ z _ => z) true fun d b z _ _ => putBit_bit d b z,
    bitOp_does exec_setbnz (fun _ z _ => !z) true fun d b z _ _ => putBit_bit d b !z⟩
  · rw [BitVec.getElem_and, bitMask_bit]
    split <;> simp [*]
  · rw [BitVec.getElem_xor, bitMask_bit]
    split <;> simp [*]
  · rw [BitVec.getElem_and, BitVec.getElem_not, bitMask_bit]
    split <;> simp [*]
  · rw [BitVec.getElem_or, bitMask_bit]
    split <;> simp [*]

end Sys2Proof.Machine
end

section
/-!
The functions of D alone, bit by bit: DECODk, BLMASK, NOT, ONECNT, ZERCNT, BINGRY, GRYBIN, MERGEW and SPLITW (R420 to
R427, R430 to R433).
-/
namespace Sys2Proof.Machine

/-! ### Counting bits (R9) -/

theorem popcount_eq_count (x : Word) : popcount x = Nat.count (fun i => x.getLsbD i = true) 32 := by
  simp [popcount, Nat.count]

/-- The model's count over the bit numbers is the number of bits that are 1. -/
theorem popcount_eq_card (x : Word) :
    popcount x = (Finset.univ.filter fun i : Fin 32 => x.getLsbD i = true).card := by
  rw [popcount_eq_count, Nat.count_eq_card_filter_range, Finset.card_filter, Finset.card_filter,
    Fin.sum_univ_eq_sum_range (fun i => if x.getLsbD i = true then 1 else 0)]

theorem zeroCount_eq_card (x : Word) :
    32 - popcount x = (Finset.univ.filter fun i : Fin 32 => x.getLsbD i = false).card := by
  have all := Finset.card_filter_add_card_filter_not (s := (Finset.univ : Finset (Fin 32)))
    (fun i => x.getLsbD i = true)
  simp only [Bool.not_eq_true, Finset.card_univ, Fintype.card_fin] at all
  rw [popcount_eq_card]
  omega

theorem foldl_xor_eq {α : Type} (f : α → Bool) (l : List α) (p : Bool) :
    l.foldl (fun p i => Bool.xor p (f i)) p = Bool.xor p (l.countP f % 2 == 1) := by
  induction l generalizing p with
  | nil => simp
  | cons i l ih =>
    rw [List.foldl_cons, ih, List.countP_cons]
    cases f i
    · simp
    · have : ((l.countP f + 1) % 2 == 1) = !(l.countP f % 2 == 1) := by
        rcases Nat.mod_two_eq_zero_or_one (l.countP f) with h | h <;> simp [Nat.add_mod, h]
      simp [this]

/-! ### Bits -/

theorem decod_bit {k : Nat} {ones : Word} (spaced : ∀ j < 32, ones.getLsbD j = decide (j % 2 ^ k = 0)) (d : Word) :
    ones <<< (d.extractLsb' 0 k).toNat =
      BitVec.ofFnLE fun i : Fin 32 => decide (i.val % 2 ^ k = d.toNat % 2 ^ k) := by
  ext i hi
  have lt : d.toNat % 2 ^ k < 2 ^ k := Nat.mod_lt _ (by positivity)
  rw [BitVec.getElem_ofFnLE, BitVec.getElem_shiftLeft, BitVec.extractLsb'_toNat, Nat.shiftRight_zero]
  by_cases below : i < d.toNat % 2 ^ k
  · simp [below, Nat.mod_eq_of_lt (below.trans lt), below.ne]
  · have le := Nat.le_of_not_lt below
    rw [← BitVec.getLsbD_eq_getElem, spaced _ (by omega)]
    simp only [below, decide_false, Bool.not_false, Bool.true_and, decide_eq_decide]
    rw [← Nat.dvd_iff_mod_eq_zero, ← Nat.modEq_iff_dvd' le, Nat.ModEq, Nat.mod_mod, eq_comm]

theorem blmaskFn_eq (d : Word) :
    blmaskFn (d.extractLsb' 0 6) = BitVec.ofFnLE fun i : Fin 32 => decide (i.val < d.toNat % 64) := by
  ext i hi
  rw [blmaskFn, BitVec.getElem_ofFnLE, ← BitVec.getLsbD_eq_getElem, BitVec.getLsbD_ofNat,
    Nat.testBit_two_pow_sub_one, BitVec.extractLsb'_toNat, Nat.shiftRight_zero]
  simp only [hi, decide_true, Bool.true_and, decide_eq_decide]
  omega

theorem bingry_eq (d : Word) :
    bingry d = BitVec.ofFnLE fun i : Fin 32 => Bool.xor (d.getLsbD i) (d.getLsbD (i + 1)) := by
  ext i hi
  rw [bingry, BitVec.getElem_ofFnLE, BitVec.getElem_xor, BitVec.getElem_ushiftRight, Nat.add_comm]
  rfl

/-- The bits from `i` up, counted from bit number 0 and from bit number `i`. -/
theorem popcount_ushiftRight (d : Word) {i : Nat} (hi : i ≤ 32) :
    popcount (d >>> i) = (List.range 32).countP fun j => decide (i ≤ j) && d.getLsbD j := by
  obtain ⟨n, hn⟩ := Nat.exists_eq_add_of_le hi
  have above : Nat.count (fun j => d.getLsbD (i + (n + j)) = true) i = 0 :=
    Nat.count_of_forall_not fun j _ => by rw [BitVec.getLsbD_of_ge _ _ (by omega)]; exact Bool.false_ne_true
  have below : Nat.count (fun j => (decide (i ≤ j) && d.getLsbD j) = true) i = 0 :=
    Nat.count_of_forall_not fun j hj => by simp [hj.not_ge]
  calc popcount (d >>> i)
      = Nat.count (fun j => d.getLsbD (i + j) = true) (n + i) := by
        rw [popcount_eq_count, Nat.add_comm n i, ← hn]; simp only [BitVec.getLsbD_ushiftRight]
    _ = Nat.count (fun j => d.getLsbD (i + j) = true) n := by rw [Nat.count_add, above, Nat.add_zero]
    _ = Nat.count (fun j => (decide (i ≤ j) && d.getLsbD j) = true) (i + n) := by
        rw [Nat.count_add, below, Nat.zero_add]; simp only [Nat.le_add_right, decide_true, Bool.true_and]
    _ = (List.range 32).countP fun j => decide (i ≤ j) && d.getLsbD j := by
        rw [← hn, Nat.count]; simp only [Bool.decide_eq_true]

theorem grybin_eq (d : Word) : grybin d = BitVec.ofFnLE fun i : Fin 32 =>
    (List.range 32).foldl (fun p j => Bool.xor p (decide (i.val ≤ j) && d.getLsbD j)) false := by
  rw [grybin]
  congr 1
  funext i
  rw [foldl_xor_eq (fun j => decide (i.val ≤ j) && d.getLsbD j), Bool.false_xor, parity,
    popcount_ushiftRight d i.isLt.le]

theorem mergew_eq (d : Word) :
    mergew d = BitVec.ofFnLE fun i : Fin 32 => d.getLsbD (i.val / 2 + 16 * (i.val % 2)) := by
  rw [mergew]
  congr 1
  funext i
  split
  next even => rw [even, Nat.mul_zero, Nat.add_zero]
  next odd => rw [Nat.mod_two_ne_zero.1 odd, Nat.mul_one, Nat.add_comm]

theorem splitw_eq (d : Word) :
    splitw d = BitVec.ofFnLE fun i : Fin 32 => d.getLsbD (2 * (i.val % 16) + i.val / 16) := by
  rw [splitw]
  congr 1
  funext i
  have := i.isLt
  split
  next low => congr 1; omega
  next high => congr 1; omega

/-- Settles O12: the bits of each function. -/
theorem singleOperandFunctionResults : Obligations.SingleOperandFunctionResults :=
  ⟨changeD_does exec_decod5 _ fun d => (decod_bit (by decide) d).symm,
    changeD_does exec_decod4 _ fun d => (decod_bit (by decide) d).symm,
    changeD_does exec_decod3 _ fun d => (decod_bit (by decide) d).symm,
    changeD_does exec_decod2 _ fun d => (decod_bit (by decide) d).symm,
    changeD_does exec_blmask _ fun d => (blmaskFn_eq d).symm,
    changeD_does exec_not _ fun d => (BitVec.xor_allOnes (x := d)).symm,
    changeD_does exec_onecnt _ fun d => by rw [popcount_eq_card],
    changeD_does exec_zercnt _ fun d => by rw [zeroCount_eq_card],
    changeD_does exec_bingry _ fun d => (bingry_eq d).symm,
    changeD_does exec_grybin _ fun d => (grybin_eq d).symm,
    changeD_does exec_mergew _ fun d => (mergew_eq d).symm,
    changeD_does exec_splitw _ fun d => (splitw_eq d).symm⟩

end Sys2Proof.Machine
end

section
/-!
INCPAT and DECPAT, SEUSSF and SEUSSR (R428, R429, R434, R435). A long is taken apart at its lowest run of ones
(`withLowestRun`); INCPAT moves that run up by one bit and puts what it loses at the bottom (`nextWithOnes_run`).
-/
namespace Sys2Proof.Machine

/-! ### The number of ones of a number -/

/-- The number of 1 digits in base 2. -/
def oneBits (n : Nat) : Nat := (Nat.digits 2 n).sum

theorem oneBits_zero : oneBits 0 = 0 := by simp [oneBits]

theorem oneBits_eq (n : Nat) : oneBits n = n % 2 + oneBits (n / 2) := by
  rcases Nat.eq_zero_or_pos n with rfl | pos
  · rfl
  · rw [oneBits, Nat.digits_def' (by decide) pos, List.sum_cons, oneBits]

/-- The ones of two numbers whose digits do not overlap. -/
theorem oneBits_split (k q : Nat) {r : Nat} (h : r < 2 ^ k) :
    oneBits (2 ^ k * q + r) = oneBits q + oneBits r := by
  induction k generalizing r with
  | zero =>
    obtain rfl : r = 0 := by omega
    rw [oneBits_zero, Nat.pow_zero, Nat.one_mul, Nat.add_zero, Nat.add_zero]
  | succ k ih =>
    have double : 2 ^ (k + 1) * q = 2 * (2 ^ k * q) := by rw [Nat.pow_succ']; ring
    rw [oneBits_eq (2 ^ (k + 1) * q + r), oneBits_eq r, double,
      show (2 * (2 ^ k * q) + r) / 2 = 2 ^ k * q + r / 2 by omega, ih (by rw [Nat.pow_succ] at h; omega)]
    omega

theorem oneBits_mersenne (j : Nat) : oneBits (2 ^ j - 1) = j := by
  induction j with
  | zero => exact oneBits_zero
  | succ j ih =>
    have pos := Nat.two_pow_pos j
    rw [oneBits_eq, Nat.pow_succ, show (2 ^ j * 2 - 1) / 2 = 2 ^ j - 1 by omega, ih]
    omega

/-- No number with as many ones is smaller than a run of ones from bit 0 up. -/
theorem mersenne_le (n : Nat) : 2 ^ oneBits n - 1 ≤ n := by
  induction n using Nat.strong_induction_on with
  | _ n ih =>
    rcases Nat.eq_zero_or_pos n with rfl | pos
    · simp [oneBits_zero]
    · have half := ih (n / 2) (by omega)
      rw [oneBits_eq]
      rcases Nat.mod_two_eq_zero_or_one n with even | odd
      · rw [even, Nat.zero_add]
        omega
      · rw [odd, Nat.pow_add]
        omega

theorem oneBits_pos {n : Nat} (h : n ≠ 0) : 0 < oneBits n := by
  induction n using Nat.strong_induction_on with
  | _ n ih =>
    rw [oneBits_eq]
    rcases Nat.mod_two_eq_zero_or_one n with even | odd
    · exact Nat.add_pos_right _ (ih (n / 2) (by omega) (by omega))
    · omega

theorem count_testBit (k n : Nat) : Nat.count (fun i => n.testBit i = true) k = oneBits (n % 2 ^ k) := by
  induction k generalizing n with
  | zero => rw [Nat.count_zero, Nat.pow_zero, Nat.mod_one, oneBits_zero]
  | succ k ih =>
    rw [Nat.count_succ', oneBits_eq]
    simp only [Nat.testBit_succ, ih]
    rw [Nat.pow_succ', Nat.mod_mul_right_div_self, Nat.mod_mul_right_mod, Nat.testBit_zero, Nat.add_comm]
    rcases Nat.mod_two_eq_zero_or_one n with even | odd
    · simp [even]
    · simp [odd]

theorem popcount_eq_oneBits (v : Word) : popcount v = oneBits v.toNat := by
  rw [popcount_eq_count, ← Nat.mod_eq_of_lt v.isLt, ← count_testBit]
  simp only [BitVec.testBit_toNat]

theorem popcount_le (v : Word) : popcount v ≤ 32 := by
  rw [popcount_eq_count]
  exact Nat.count_le _

theorem popcount_not (v : Word) : popcount (~~~v) = 32 - popcount v := by
  rw [zeroCount_eq_card, popcount_eq_card]
  congr 1
  ext i
  simp

/-! ### The next larger number with as many ones -/

/-- A number whose lowest run of ones is `j + 1` bits long and begins at bit `k`. -/
def withLowestRun (k j p : Nat) : Nat := 2 ^ k * (2 ^ (j + 1) * (2 * p) + (2 ^ (j + 1) - 1))

theorem exists_withLowestRun {n : Nat} (h : n ≠ 0) : ∃ k j p, n = withLowestRun k j p := by
  obtain ⟨k, m, ⟨a, rfl⟩, rfl⟩ := Nat.exists_eq_two_pow_mul_odd h
  obtain ⟨j, _, ⟨p, rfl⟩, run⟩ := Nat.exists_eq_two_pow_mul_odd (n := 2 * a + 1 + 1) (by omega)
  cases j with
  | zero => omega
  | succ j =>
    refine ⟨k, j, p, ?_⟩
    have := Nat.two_pow_pos (j + 1)
    rw [Nat.mul_add, Nat.mul_one] at run
    rw [withLowestRun]
    congr 1
    omega

theorem oneBits_withLowestRun (k j p : Nat) : oneBits (withLowestRun k j p) = oneBits p + (j + 1) := by
  have shifted (n : Nat) : oneBits (2 ^ k * n) = oneBits n := by
    simpa [oneBits_zero] using oneBits_split k n (Nat.two_pow_pos k)
  have := Nat.two_pow_pos (j + 1)
  rw [withLowestRun, shifted, oneBits_split (j + 1) _ (by omega), oneBits_mersenne, oneBits_eq (2 * p)]
  simp

/-- The run moved up by one bit. -/
theorem withLowestRun_add (k j p : Nat) :
    withLowestRun k j p + 2 ^ k = 2 ^ (k + (j + 1)) * (2 * p + 1) := by
  have pos := Nat.two_pow_pos (j + 1)
  have next : 2 ^ (j + 1) * (2 * p) + (2 ^ (j + 1) - 1) + 1 = 2 ^ (j + 1) * (2 * p + 1) := by
    rw [Nat.mul_add _ _ 1, Nat.mul_one]
    omega
  rw [withLowestRun, ← Nat.mul_succ, Nat.succ_eq_add_one, next, ← Nat.mul_assoc, ← Nat.pow_add]

/-- A larger number with as many ones has the run moved up: below that, all the ones are there already. -/
theorem run_moves_up {k j p u : Nat} (ones : oneBits u = oneBits (withLowestRun k j p))
    (lt : withLowestRun k j p < u) : 2 ^ (k + (j + 1)) * (2 * p + 1) ≤ u := by
  by_contra small
  rw [← withLowestRun_add] at small
  obtain ⟨r, rfl⟩ := Nat.exists_eq_add_of_lt lt
  have more := oneBits_split k (2 ^ (j + 1) * (2 * p) + (2 ^ (j + 1) - 1)) (r := r + 1) (by omega)
  have same := oneBits_split k (2 ^ (j + 1) * (2 * p) + (2 ^ (j + 1) - 1)) (Nat.two_pow_pos k)
  have := oneBits_pos (n := r + 1) (by omega)
  rw [← withLowestRun] at more same
  rw [oneBits_zero, Nat.add_zero] at same
  rw [Nat.add_assoc] at ones
  omega

theorem mersenne_lt (k j : Nat) : 2 ^ j - 1 < 2 ^ (k + (j + 1)) :=
  Nat.lt_of_lt_of_le (Nat.sub_lt (Nat.two_pow_pos j) Nat.one_pos) (Nat.pow_le_pow_right (by decide) (by omega))

/-- `v` is the least number greater than `n` with as many ones. -/
structure NextWithOnes (n v : Nat) : Prop where
  ones  : oneBits v = oneBits n
  lt    : n < v
  least : ∀ u, oneBits u = oneBits n → n < u → v ≤ u

/-- The run moves up by one, and what it loses comes back at the bottom. -/
theorem nextWithOnes_run (k j p : Nat) :
    NextWithOnes (withLowestRun k j p) (2 ^ (k + (j + 1)) * (2 * p + 1) + (2 ^ j - 1)) := by
  have fits := mersenne_lt k j
  have odd : oneBits (2 * p + 1) = oneBits p + 1 := by
    rw [oneBits_eq, show (2 * p + 1) / 2 = p by omega]
    omega
  refine ⟨?_, ?_, fun u ones lt => ?_⟩
  · rw [oneBits_split _ _ fits, odd, oneBits_mersenne, oneBits_withLowestRun]
    omega
  · have := Nat.two_pow_pos k
    rw [← withLowestRun_add]
    omega
  · obtain ⟨r, rfl⟩ := Nat.exists_eq_add_of_le (run_moves_up ones lt)
    by_cases small : r < 2 ^ (k + (j + 1))
    · rw [oneBits_split _ _ small, odd, oneBits_withLowestRun] at ones
      have := mersenne_le r
      rw [show oneBits r = j by omega] at this
      omega
    · omega

/-! ### INCPAT (R428) -/

theorem withLowestRun_pos (k j p : Nat) : 0 < withLowestRun k j p :=
  Nat.mul_pos (Nat.two_pow_pos k) (by have := Nat.two_pow_pos (j + 1); omega)

theorem lowestBit_run {d : Word} {k j p : Nat} (hd : d.toNat = withLowestRun k j p) : lowestBit d = 2 ^ k := by
  have pos := withLowestRun_pos k j p
  have lt := d.isLt
  have low := Nat.two_pow_pos k
  obtain ⟨a, odd⟩ : ∃ a, 2 ^ (j + 1) * (2 * p) + (2 ^ (j + 1) - 1) = 2 * a + 1 :=
    ⟨2 ^ (j + 1) * p + (2 ^ j - 1), by have := Nat.two_pow_pos j; rw [Nat.mul_left_comm]; omega⟩
  have here : d.toNat = 2 ^ k * (2 * a + 1) + 0 := by rw [hd, withLowestRun, odd]; rfl
  have pred : d.toNat - 1 = 2 ^ k * (2 * a) + (2 ^ k - 1) := by rw [here, Nat.mul_succ]; omega
  have small : k < 32 := by
    by_contra large
    have := Nat.pow_le_pow_right (n := 2) (by decide) (Nat.le_of_not_lt large)
    have := Nat.mul_le_mul_left (2 ^ k) (Nat.succ_pos (2 * a))
    omega
  have neg : (-d).toNat = 2 ^ 32 - (d.toNat - 1 + 1) := by
    rw [BitVec.toNat_neg, Nat.mod_eq_of_lt] <;> omega
  apply Nat.eq_of_testBit_eq
  intro i
  rw [lowestBit, BitVec.toNat_and, Nat.testBit_and, neg, Nat.testBit_two_pow_sub_succ (by omega), pred, here,
    Nat.testBit_two_pow_mul_add _ low, Nat.testBit_two_pow_mul_add _ (by omega), Nat.testBit_two_pow]
  rcases Nat.lt_trichotomy i k with below | rfl | above
  · simp [below, below.ne']
  · simp [small]
  · obtain ⟨n, rfl⟩ := Nat.exists_eq_add_of_lt above
    have half : (2 * a + 1) / 2 = a := by omega
    rw [Nat.add_assoc]
    simp +contextual [Nat.testBit_succ, half]

/-- The bits in which a number and its sum with its lowest bit differ. -/
theorem run_xor (k j p : Nat) :
    (withLowestRun k j p ^^^ 2 ^ (k + (j + 1)) * (2 * p + 1)) / 2 ^ k = 2 ^ (j + 2) - 1 := by
  have pos := Nat.two_pow_pos (j + 1)
  have run : 2 ^ (j + 1) * (2 * p) + (2 ^ (j + 1) - 1) = 2 ^ (j + 2) * p + (2 ^ (j + 1) - 1) := by
    rw [Nat.pow_succ 2 (j + 1), Nat.mul_assoc]
  have moved : 2 ^ (j + 1) * (2 * p + 1) = 2 ^ (j + 2) * p + 2 ^ (j + 1) := by
    rw [Nat.pow_succ 2 (j + 1), Nat.mul_assoc, Nat.mul_add, Nat.mul_one]
  rw [Nat.xor_div_two_pow, withLowestRun, Nat.pow_add 2 k, Nat.mul_assoc, Nat.mul_div_cancel_left _ (Nat.two_pow_pos k),
    Nat.mul_div_cancel_left _ (Nat.two_pow_pos k), run, moved]
  apply Nat.eq_of_testBit_eq
  intro i
  have fits : 2 ^ (j + 1) < 2 ^ (j + 2) := Nat.pow_lt_pow_right (by decide) (by omega)
  rw [Nat.testBit_xor, Nat.testBit_two_pow_mul_add _ (by omega), Nat.testBit_two_pow_mul_add _ fits,
    Nat.testBit_two_pow_sub_one, Nat.testBit_two_pow_sub_one, Nat.testBit_two_pow]
  split
  next low => by_cases top : j + 1 = i <;> simp [top] <;> omega
  next high => simp [high]

theorem run_ne_zero {d : Word} {k j p : Nat} (hd : d.toNat = withLowestRun k j p) : d ≠ 0#32 := by
  rintro rfl
  exact (withLowestRun_pos k j p).ne hd

theorem add_lowestBit_run {d : Word} {k j p : Nat} (hd : d.toNat = withLowestRun k j p) :
    d.toNat + lowestBit d = 2 ^ (k + (j + 1)) * (2 * p + 1) := by
  rw [lowestBit_run hd, hd, withLowestRun_add]

/-- What INCPAT computes unless the run leaves the long. -/
theorem incpatFn_run {d : Word} {k j p : Nat} (hd : d.toNat = withLowestRun k j p)
    (fits : 2 ^ (k + (j + 1)) * (2 * p + 1) < 2 ^ 32) :
    (incpatFn d).toNat = 2 ^ (k + (j + 1)) * (2 * p + 1) + (2 ^ j - 1) := by
  have quarter : (2 ^ (j + 2) - 1) / 4 = 2 ^ j - 1 := by
    rw [Nat.pow_add 2 j 2]
    omega
  have bottom : 2 ^ j - 1 < 2 ^ 32 :=
    (mersenne_lt k j).trans_le ((Nat.le_mul_of_pos_right _ (Nat.succ_pos _)).trans fits.le)
  simp only [incpatFn, if_neg (run_ne_zero hd), add_lowestBit_run hd, if_pos fits]
  rw [hd, lowestBit_run hd, run_xor, quarter, BitVec.toNat_ofNat, Nat.mod_eq_of_lt (Nat.or_lt_two_pow fits bottom),
    Nat.two_pow_add_eq_or_of_lt (mersenne_lt k j)]

/-- `v` is the least long greater than `d` with as many ones. -/
structure NextPattern (d v : Word) : Prop where
  ones  : popcount v = popcount d
  lt    : d.toNat < v.toNat
  least : ∀ u, popcount u = popcount d → d.toNat < u.toNat → v.toNat ≤ u.toNat

/-- Where a larger long has as many ones, INCPAT gives the least of them. -/
theorem nextPattern_incpatFn {d u : Word} (ones : popcount u = popcount d) (lt : d.toNat < u.toNat) :
    NextPattern d (incpatFn d) := by
  have ne : d.toNat ≠ 0 := fun zero => by
    rw [popcount_eq_oneBits d, zero, oneBits_zero, popcount_eq_oneBits] at ones
    exact (oneBits_pos (by omega)).ne' ones
  obtain ⟨k, j, p, hd⟩ := exists_withLowestRun ne
  simp only [popcount_eq_oneBits] at ones
  have next := nextWithOnes_run k j p
  rw [hd] at lt ones
  rw [← incpatFn_run hd ((run_moves_up ones lt).trans_lt u.isLt), ← hd] at next
  refine ⟨?_, next.lt, fun u ones lt => next.least _ ?_ lt⟩
  · rw [popcount_eq_oneBits, popcount_eq_oneBits, next.ones]
  · rw [← popcount_eq_oneBits, ← popcount_eq_oneBits, ones]

/-- After the last long with so many ones, INCPAT gives the first. -/
theorem incpatFn_last {d : Word} (last : ∀ u, popcount u = popcount d → ¬ d.toNat < u.toNat) :
    (incpatFn d).toNat = 2 ^ popcount d - 1 := by
  have le : 2 ^ popcount d ≤ 2 ^ 32 := Nat.pow_le_pow_right (by decide) (popcount_le d)
  have := Nat.two_pow_pos (popcount d)
  by_cases zero : d = 0#32
  · subst zero
    decide
  · obtain ⟨k, j, p, hd⟩ := exists_withLowestRun (n := d.toNat) fun h => zero (BitVec.eq_of_toNat_eq h)
    have next := nextWithOnes_run k j p
    rw [← hd] at next
    have leaves : ¬ 2 ^ (k + (j + 1)) * (2 * p + 1) < 2 ^ 32 := fun fits => by
      rw [← incpatFn_run hd fits] at next
      exact last _ (by rw [popcount_eq_oneBits, popcount_eq_oneBits, next.ones]) next.lt
    simp only [incpatFn, if_neg zero, add_lowestBit_run hd, if_neg leaves]
    rw [BitVec.toNat_ofNat]
    omega

/-! ### DECPAT (R429) -/

/-- Complementing turns the order round. -/
theorem not_lt_comm (u v : Word) : (~~~u).toNat < v.toNat ↔ (~~~v).toNat < u.toNat := by
  have := u.isLt
  have := v.isLt
  rw [BitVec.toNat_not, BitVec.toNat_not]
  omega

theorem popcount_not_congr {u v : Word} (h : popcount u = popcount v) : popcount (~~~u) = popcount (~~~v) := by
  rw [popcount_not, popcount_not, h]

/-- Two longs of which neither is the smaller one. -/
theorem eq_of_not_lt {u v : Word} (h : ¬ u.toNat < v.toNat) (h' : ¬ v.toNat < u.toNat) : u = v :=
  BitVec.eq_of_toNat_eq (Nat.le_antisymm (Nat.not_lt.1 h') (Nat.not_lt.1 h))

/-- The complement of `d` comes next after that of the long next after `d`, as
nothing lies between the two. -/
theorem NextPattern.not_incpatFn_not {d v : Word} (up : NextPattern d v) : ~~~(incpatFn (~~~v)) = d := by
  have ones := popcount_not_congr up.ones.symm
  have lt : (~~~v).toNat < (~~~d).toNat := by rw [not_lt_comm, BitVec.not_not]; exact up.lt
  have back := nextPattern_incpatFn ones lt
  have ones' : popcount (~~~(incpatFn (~~~v))) = popcount d := by
    rw [popcount_not_congr back.ones, BitVec.not_not, up.ones]
  refine eq_of_not_lt (fun less => ?_) fun between => ?_
  · exact ((not_lt_comm _ _).1 less).not_ge (back.least _ ones lt)
  · exact ((not_lt_comm _ _).1 back.lt).not_ge (up.least _ ones' between)

/-- The first of the longs with `n` ones. -/
theorem first_isLeast {n : Nat} {v : Word} (first : v.toNat = 2 ^ n - 1) :
    popcount v = n ∧ ∀ u : Word, popcount u = n → ¬ u.toNat < v.toNat := by
  refine ⟨by rw [popcount_eq_oneBits, first, oneBits_mersenne], fun u ones => Nat.not_lt.2 ?_⟩
  rw [first, ← ones, popcount_eq_oneBits]
  exact mersenne_le _

/-- The complement of the last long with so many ones is the first with as many ones as it has. -/
theorem not_incpatFn_not_of_last {d : Word} (last : ∀ u, popcount u = popcount d → ¬ d.toNat < u.toNat) :
    ~~~(incpatFn (~~~(incpatFn d))) = d := by
  obtain ⟨ones, least⟩ := first_isLeast (incpatFn_last last)
  have turned : ∀ u, popcount u = popcount (~~~(incpatFn d)) → ¬ (~~~(incpatFn d)).toNat < u.toNat := by
    intro u same lt
    refine least (~~~u) ?_ ((not_lt_comm _ _).1 lt)
    rw [popcount_not_congr same, BitVec.not_not, ones]
  obtain ⟨ones', least'⟩ := first_isLeast (incpatFn_last turned)
  refine eq_of_not_lt (fun less => ?_) (last _ ?_)
  · exact least' _ (popcount_not_congr ones.symm) ((not_lt_comm _ _).1 less)
  · rw [popcount_not_congr ones', BitVec.not_not, ones]

theorem not_incpatFn_not_incpatFn (d : Word) : ~~~(incpatFn (~~~(incpatFn d))) = d := by
  by_cases larger : ∃ u, popcount u = popcount d ∧ d.toNat < u.toNat
  · obtain ⟨u, ones, lt⟩ := larger
    exact (nextPattern_incpatFn ones lt).not_incpatFn_not
  · exact not_incpatFn_not_of_last fun u ones lt => larger ⟨u, ones, lt⟩

theorem decpatFn_incpatFn (d : Word) : decpatFn (incpatFn d) = d := not_incpatFn_not_incpatFn d

theorem incpatFn_decpatFn (d : Word) : incpatFn (decpatFn d) = d := by
  rw [decpatFn, ← BitVec.not_inj, not_incpatFn_not_incpatFn]

/-! ### SEUSSF and SEUSSR (R434, R435) -/

theorem seussR_seussF (d : Word) : seussR (seussF d) = d := by
  rw [seussR, seussF, ← Equiv.Perm.mul_apply, ← map_mul, ← ofAdd_add, neg_add_cancel, ofAdd_zero, map_one,
    Equiv.Perm.one_apply]

theorem seussF_seussR (d : Word) : seussF (seussR d) = d := by
  rw [seussR, seussF, ← Equiv.Perm.mul_apply, ← map_mul, ← ofAdd_add, add_neg_cancel, ofAdd_zero, map_one,
    Equiv.Perm.one_apply]

/-- The group has order 32 (D25). -/
theorem iterate_seussF (d : Word) : seussF^[32] d = d := by
  have order : (Multiplicative.ofAdd (1 : ZMod 32)) ^ 32 = 1 := by decide
  rw [show seussF = Config.seussAction (Multiplicative.ofAdd 1) from rfl, Equiv.Perm.iterate_eq_pow, ← map_pow, order,
    map_one, Equiv.Perm.one_apply]

/-- Settles O13: what the instructions compute, then the laws of the functions. -/
theorem patternAndSequenceResults : Obligations.PatternAndSequenceResults := by
  refine ⟨changeD_does exec_incpat _ fun _ => rfl, fun d => ⟨?_, fun none => ?_⟩,
    changeD_does exec_decpat _ fun _ => rfl, fun d => ⟨decpatFn_incpatFn d, incpatFn_decpatFn d⟩,
    changeD_does exec_seussf _ fun _ => rfl, changeD_does exec_seussr _ fun _ => rfl,
    fun d => ⟨seussR_seussF d, seussF_seussR d, iterate_seussF d⟩⟩
  all_goals simp only [← popcount_eq_card] at *
  · rintro ⟨u, ones, lt⟩
    have next := nextPattern_incpatFn ones lt
    exact ⟨next.ones, next.lt, next.least⟩
  · exact incpatFn_last fun u ones lt => none ⟨u, ones, lt⟩

end Sys2Proof.Machine
end

section
/-!
The core two-operand instructions that shift, rotate, limit or combine bits (R470, R473 to R484, R488 to R495).
-/
namespace Sys2Proof.Machine

/-! ### The common scheme (R470) -/

/-- `alu_does` where the meaning `f` is given as a result, Z and C. -/
theorem alu_yields {mk : AluOps → Instr} {reads : Bool} {f : Word → Word → Bool → Bool → AluOut}
    (h : ∀ o s, exec (mk o) s = alu reads f o s) {g : Word → Word → Bool → Bool → Word × Bool × Bool}
    (hf : ∀ d s z c, f d s z c = ⟨(g d s z c).1, (g d s z c).2.1, (g d s z c).2.2⟩) : AluDoes mk reads g :=
  alu_does h fun d s z c => by rw [hf]

/-- The same for "Z is result is zero". -/
theorem alu_yields_withZero {mk : AluOps → Instr} {reads : Bool} {f : Word → Word → Bool → Bool → AluOut}
    (h : ∀ o s, exec (mk o) s = alu reads f o s) {v : Word → Word → Bool → Bool → Word}
    {cf : Word → Word → Bool → Bool → Bool} (hf : ∀ d s z c, f d s z c = withZero (v d s z c) (cf d s z c)) :
    AluDoes mk reads fun d s z c => (v d s z c, decide (v d s z c = 0#32), cf d s z c) :=
  alu_yields h fun d s z c => by rw [hf, withZero, beq_eq_decide]

/-! ### Shifts and rotates (R473 to R480) -/

theorem shiftCount_eq (s : Word) : shiftCount s = s.toNat % 32 := by
  rw [shiftCount, BitVec.extractLsb'_toNat, Nat.shiftRight_zero]

theorem msb_word (d : Word) : d.msb = d.getLsbD 31 := BitVec.msb_eq_getLsbD_last d

/-- At count 0 the bits that a rotate brings in are shifted out as a whole. -/
theorem rorOut_eq (d s : Word) : rorOut d s = withZero (d.rotateRight (s.toNat % 32)) (d.getLsbD 0) := by
  rw [rorOut, BitVec.rotateRight_def, Nat.mod_mod, shiftCount_eq]
  by_cases zero : s.toNat % 32 = 0
  · simp [zero]
  · simp [zero]

theorem rolOut_eq (d s : Word) : rolOut d s = withZero (d.rotateLeft (s.toNat % 32)) (d.getLsbD 31) := by
  rw [rolOut, BitVec.rotateLeft_def, Nat.mod_mod, shiftCount_eq, msb_word]
  by_cases zero : s.toNat % 32 = 0
  · simp [zero, BitVec.ushiftRight_eq_zero]
  · simp [zero]

/-- Ones brought in from the left, as the complement of zeros brought in. -/
theorem ushiftRight_or_ones (d : Word) {n : Nat} (hn : n < 32) :
    (d >>> n ||| if n != 0 then BitVec.allOnes 32 <<< (32 - n) else 0#32) = ~~~(~~~d >>> n) := by
  by_cases zero : n = 0
  · simp [zero]
  · have ones : (n != 0) = true := by simp [zero]
    ext i hi
    rw [if_pos ones, BitVec.getElem_or, BitVec.getElem_shiftLeft, BitVec.getElem_allOnes, BitVec.getElem_not,
      BitVec.getElem_ushiftRight, BitVec.getElem_ushiftRight, BitVec.getLsbD_not]
    by_cases inside : n + i < 32
    · simp [inside, show i < 32 - n by omega]
    · simp [inside, show ¬ i < 32 - n by omega]

theorem rcrOut_eq (d s : Word) (c : Bool) : rcrOut d s c =
    withZero (if c then ~~~(~~~d >>> (s.toNat % 32)) else d >>> (s.toNat % 32)) (d.getLsbD 0) := by
  rw [rcrOut, shiftCount_eq]
  cases c
  case false => simp
  case true => simp only [Bool.true_and, if_true, ushiftRight_or_ones d (Nat.mod_lt s.toNat (by decide))]

/-- Ones brought in from the right, as the complement of zeros brought in. -/
theorem shiftLeft_or_ones (d : Word) (n : Nat) :
    d <<< n ||| BitVec.ofNat 32 (2 ^ n - 1) = ~~~(~~~d <<< n) := by
  ext i hi
  rw [BitVec.getElem_or, ← BitVec.getLsbD_eq_getElem (x := BitVec.ofNat 32 _), BitVec.getLsbD_ofNat,
    Nat.testBit_two_pow_sub_one]
  by_cases new : i < n
  · simp [new, hi]
  · simp [new]

theorem rclOut_eq (d s : Word) (c : Bool) : rclOut d s c =
    withZero (if c then ~~~(~~~d <<< (s.toNat % 32)) else d <<< (s.toNat % 32)) (d.getLsbD 31) := by
  rw [rclOut, shiftCount_eq, msb_word]
  cases c
  case false => simp
  case true => simp only [if_true, shiftLeft_or_ones]

/-- Bit i of the reversed long, shifted by n, is bit 31-n-i: the low 32-n bits reversed. -/
theorem revOut_eq (d s : Word) : revOut d s = withZero (d.reverse >>> (s.toNat % 32)) (d.getLsbD 0) := by
  have value : (BitVec.ofFnLE fun i : Fin 32 =>
      decide (i.val < 32 - s.toNat % 32) && d.getLsbD (32 - s.toNat % 32 - 1 - i.val)) =
        d.reverse >>> (s.toNat % 32) := by
    ext i hi
    rw [BitVec.getElem_ofFnLE, BitVec.getElem_ushiftRight, BitVec.getLsbD_reverse, BitVec.getMsbD]
    dsimp only
    congr 2
    · rw [eq_iff_iff]; omega
    · omega
  rw [revOut, shiftCount_eq]
  exact congrArg (withZero · _) value

/-- Settles O1, instruction by instruction. -/
theorem shiftAndRotateResults : Obligations.ShiftAndRotateResults :=
  ⟨alu_yields_withZero exec_ror fun d s _ _ => rorOut_eq d s,
    alu_yields_withZero exec_rol fun d s _ _ => rolOut_eq d s,
    alu_yields_withZero exec_shr fun d s _ _ => by rw [shrOut, shiftCount_eq],
    alu_yields_withZero exec_shl fun d s _ _ => by rw [shlOut, shiftCount_eq, msb_word],
    alu_yields_withZero exec_rcr fun d s _ c => rcrOut_eq d s c,
    alu_yields_withZero exec_rcl fun d s _ c => rclOut_eq d s c,
    alu_yields_withZero exec_sar fun d s _ _ => by rw [sarOut, shiftCount_eq],
    alu_yields_withZero exec_rev fun d s _ _ => revOut_eq d s⟩

/-! ### Limits (R481 to R484) -/

theorem minMaxZ_eq (s : Word) : minMaxZ s = decide (s = 0#32) := by rw [minMaxZ, beq_eq_decide]

theorem minsOut_eq (d s : Word) : minsOut d s =
    ⟨if d.toInt < s.toInt then s else d, decide (s = 0#32), decide (d.toInt < s.toInt)⟩ := by
  simp only [minsOut, paramsSpec_minMaxZ, minMaxZ_eq, BitVec.slt_eq_decide, decide_eq_true_eq]

theorem maxsOut_eq (d s : Word) : maxsOut d s =
    ⟨if d.toInt < s.toInt then d else s, decide (s = 0#32), decide (d.toInt < s.toInt)⟩ := by
  simp only [maxsOut, paramsSpec_minMaxZ, minMaxZ_eq, BitVec.slt_eq_decide, decide_eq_true_eq]

theorem minOut_eq (d s : Word) : minOut d s =
    ⟨if d.toNat < s.toNat then s else d, decide (s = 0#32), decide (d.toNat < s.toNat)⟩ := by
  simp only [minOut, paramsSpec_minMaxZ, minMaxZ_eq, BitVec.ult_eq_decide, decide_eq_true_eq]

theorem maxOut_eq (d s : Word) : maxOut d s =
    ⟨if d.toNat < s.toNat then d else s, decide (s = 0#32), decide (d.toNat < s.toNat)⟩ := by
  simp only [maxOut, paramsSpec_minMaxZ, minMaxZ_eq, BitVec.ult_eq_decide, decide_eq_true_eq]

/-- Settles O2, instruction by instruction. -/
theorem limitResults : Obligations.LimitResults :=
  ⟨alu_yields exec_mins fun d s _ _ => minsOut_eq d s,
    alu_yields exec_maxs fun d s _ _ => maxsOut_eq d s,
    alu_yields exec_min fun d s _ _ => minOut_eq d s,
    alu_yields exec_max fun d s _ _ => maxOut_eq d s⟩

/-! ### Logic (R488 to R495) -/

/-- An odd number of ones is an exclusive or of 1. -/
theorem parity_eq (v : Word) :
    parity v = (List.range 32).foldl (fun p i => Bool.xor p (v.getLsbD i)) false := by
  rw [foldl_xor_eq, Bool.false_xor, parity, popcount]

theorem logicOut_eq (v : Word) :
    logicOut v = withZero v ((List.range 32).foldl (fun p i => Bool.xor p (v.getLsbD i)) false) := by
  rw [logicOut, parity_eq]

/-- Clearing the masked bits first makes no difference to setting them. -/
theorem muxVal_eq (d s : Word) (b : Bool) : muxVal d s b = if b then d ||| s else d &&& ~~~s := by
  cases b
  case false => exact BitVec.or_zero
  case true =>
    show d &&& ~~~s ||| s = d ||| s
    ext i hi
    rw [BitVec.getElem_or, BitVec.getElem_and, BitVec.getElem_not, BitVec.getElem_or, Bool.or_and_distrib_right,
      Bool.not_or_self, Bool.and_true]

theorem muxVal_not_eq (d s : Word) (b : Bool) : muxVal d s (!b) = if b then d &&& ~~~s else d ||| s := by
  rw [muxVal_eq]
  cases b
  · rfl
  · rfl

/-- Settles O3, instruction by instruction. -/
theorem logicResults : Obligations.LogicResults :=
  ⟨alu_yields_withZero exec_and fun _ _ _ _ => logicOut_eq _,
    alu_yields_withZero exec_andn fun _ _ _ _ => logicOut_eq _,
    alu_yields_withZero exec_or fun _ _ _ _ => logicOut_eq _,
    alu_yields_withZero exec_xor fun _ _ _ _ => logicOut_eq _,
    alu_yields_withZero exec_muxc fun _ _ _ _ => by rw [muxVal_eq, logicOut_eq],
    alu_yields_withZero exec_muxnc fun _ _ _ _ => by rw [muxVal_not_eq, logicOut_eq],
    alu_yields_withZero exec_muxz fun _ _ _ _ => by rw [muxVal_eq, logicOut_eq],
    alu_yields_withZero exec_muxnz fun _ _ _ _ => by rw [muxVal_not_eq, logicOut_eq]⟩

end Sys2Proof.Machine
end

section
/-!
The core two-operand instructions that add, subtract, negate, move or encode (R472, R485 to R487, R496 to R523), with
the results and flags of exact numbers.
-/
namespace Sys2Proof.Machine

/-! ### Unsigned sums and differences (R496 to R499, R520, R521) -/

theorem ofNat_eq_zero_iff (n : Nat) : BitVec.ofNat 32 n = 0#32 ↔ n % 2 ^ 32 = 0 := by
  rw [← BitVec.toNat_inj, BitVec.toNat_ofNat, BitVec.toNat_zero]

theorem sub_eq_zero_iff_toNat (d s : Word) : d - s = 0#32 ↔ d.toNat = s.toNat :=
  (sub_eq_zero (a := d)).trans BitVec.toNat_inj.symm

theorem sub_eq_ofInt_toNat (d s : Word) : d - s = BitVec.ofInt 32 (d.toNat - s.toNat) := by
  rw [Int.sub_eq_add_neg, BitVec.ofInt_add, BitVec.ofInt_neg, BitVec.ofInt_natCast, BitVec.ofInt_natCast,
    BitVec.ofNat_toNat, BitVec.ofNat_toNat, BitVec.setWidth_eq, BitVec.setWidth_eq, ← BitVec.sub_eq_add_neg]

theorem addOut_eq (d s : Word) : addOut d s = ⟨BitVec.ofNat 32 (d.toNat + s.toNat),
    decide ((d.toNat + s.toNat) % 2 ^ 32 = 0), decide (2 ^ 32 ≤ d.toNat + s.toNat)⟩ := by
  have value : d + s = BitVec.ofNat 32 (d.toNat + s.toNat) := by
    rw [BitVec.ofNat_add, BitVec.ofNat_toNat, BitVec.ofNat_toNat, BitVec.setWidth_eq, BitVec.setWidth_eq]
  simp only [addOut, withZero, beq_eq_decide, value, ofNat_eq_zero_iff]
  rfl

theorem subOut_eq (d s : Word) : subOut d s = ⟨BitVec.ofInt 32 (d.toNat - s.toNat),
    decide (d.toNat = s.toNat), decide (d.toNat < s.toNat)⟩ := by
  simp only [subOut, withZero, beq_eq_decide, sub_eq_zero_iff_toNat, BitVec.ult_eq_decide]
  rw [sub_eq_ofInt_toNat]

/-- The absolute value of a long is the unsigned number |s|, 2^31 included (R498). -/
theorem absWord_toNat (s : Word) : (absWord s).toNat = s.toInt.natAbs := by
  have lt := s.isLt
  rw [absWord, BitVec.toInt_eq_msb_cond]
  split
  next neg =>
    have big : 2 ^ 31 ≤ s.toNat := of_decide_eq_true (s.msb_eq_decide.symm.trans neg)
    rw [BitVec.toNat_neg]
    omega
  next => rfl

/-- CMPSUB subtracts where no borrow arises, so its difference is exact (R521). -/
theorem cmpsubOut_eq (d s : Word) : cmpsubOut d s =
    ⟨if s.toNat ≤ d.toNat then BitVec.ofNat 32 (d.toNat - s.toNat) else d,
      decide (d.toNat = s.toNat), decide (s.toNat ≤ d.toNat)⟩ := by
  simp only [cmpsubOut, beq_eq_decide, ge_iff_le, decide_eq_true_eq, BitVec.toNat_inj]
  split
  next le => rw [sub_eq_ofInt_toNat, ← Int.ofNat_sub le, BitVec.ofInt_natCast]
  next => rfl

/-- Settles O4, instruction by instruction. -/
theorem addAndSubtractResults : Obligations.AddAndSubtractResults :=
  ⟨alu_yields exec_add fun d s _ _ => addOut_eq d s,
    alu_yields exec_sub fun d s _ _ => subOut_eq d s,
    alu_yields exec_addabs fun d s _ _ => by rw [addOut_eq, absWord_toNat],
    alu_yields exec_subabs fun d s _ _ => by rw [subOut_eq, absWord_toNat],
    alu_yields exec_subr fun d s _ _ => subOut_eq s d,
    alu_yields exec_cmpsub fun d s _ _ => cmpsubOut_eq d s⟩

/-! ### Signed sums and differences (R500 to R503, R516, R517) -/

/-- An exact number lies outside the signed range just if wrapping changes it. -/
theorem signedOverflow_eq (x : Int) : signedOverflow x = decide ((BitVec.ofInt 32 x).toInt ≠ x) := by
  rw [signedOverflow, ← Bool.decide_or, decide_eq_decide, BitVec.toInt_ofInt, Ne, Int.bmod_eq_iff (by decide)]
  omega

theorem add_eq_ofInt_toInt (d s : Word) : d + s = BitVec.ofInt 32 (d.toInt + s.toInt) := by
  rw [BitVec.ofInt_add, BitVec.ofInt_toInt, BitVec.ofInt_toInt]

theorem sub_eq_ofInt_toInt (d s : Word) : d - s = BitVec.ofInt 32 (d.toInt - s.toInt) := by
  rw [Int.sub_eq_add_neg, BitVec.ofInt_add, BitVec.ofInt_neg, BitVec.ofInt_toInt, BitVec.ofInt_toInt,
    BitVec.sub_eq_add_neg]

/-- The long, Z and C that an exact signed number gives. -/
def signedOut (x : Int) : AluOut :=
  withZero (BitVec.ofInt 32 x) (decide ((BitVec.ofInt 32 x).toInt ≠ x))

theorem addsOut_eq (d s : Word) : addsOut d s = signedOut (d.toInt + s.toInt) := by
  rw [addsOut, add_eq_ofInt_toInt, signedOverflow_eq, signedOut]

theorem subsOut_eq (d s : Word) : subsOut d s = signedOut (d.toInt - s.toInt) := by
  rw [subsOut, sub_eq_ofInt_toInt, signedOverflow_eq, signedOut]

theorem sumOut_eq (d s : Word) (neg : Bool) : sumOut d s neg =
    signedOut (if neg then d.toInt - s.toInt else d.toInt + s.toInt) := by
  cases neg
  case false => exact addsOut_eq d s
  case true => exact subsOut_eq d s

theorem sumOut_not_eq (d s : Word) (pos : Bool) : sumOut d s (!pos) =
    signedOut (if pos then d.toInt + s.toInt else d.toInt - s.toInt) := by
  cases pos
  case false => exact subsOut_eq d s
  case true => exact addsOut_eq d s

/-- Settles O5, instruction by instruction. -/
theorem signedSumResults : Obligations.SignedSumResults :=
  ⟨alu_yields_withZero exec_sumc fun d s _ c => sumOut_eq d s c,
    alu_yields_withZero exec_sumnc fun d s _ c => sumOut_not_eq d s c,
    alu_yields_withZero exec_sumz fun d s z _ => sumOut_eq d s z,
    alu_yields_withZero exec_sumnz fun d s z _ => sumOut_not_eq d s z,
    alu_yields_withZero exec_adds fun d s _ _ => addsOut_eq d s,
    alu_yields_withZero exec_subs fun d s _ _ => subsOut_eq d s⟩

/-! ### Extended forms (R512 to R515, R518, R519) -/

/-- The carry in as a signed number. -/
def carryIn (c : Bool) : Int := if c then 1 else 0

theorem toNat_eq_carryIn (c : Bool) : (c.toNat : Int) = carryIn c := by
  cases c
  · rfl
  · rfl

theorem bitWord_eq_ofInt (c : Bool) : bitWord c = BitVec.ofInt 32 (carryIn c) := by
  cases c
  · rfl
  · rfl

theorem bitWord_eq_ofNat (c : Bool) : bitWord c = BitVec.ofNat 32 c.toNat := by
  cases c
  · rfl
  · rfl

theorem ofInt_sub_bitWord (x : Int) (c : Bool) :
    BitVec.ofInt 32 x - bitWord c = BitVec.ofInt 32 (x - carryIn c) := by
  rw [bitWord_eq_ofInt, Int.sub_eq_add_neg, BitVec.ofInt_add, BitVec.ofInt_neg, BitVec.sub_eq_add_neg]

/-- `withZeroAnd` with Z as a proposition about the result. -/
theorem withZeroAnd_eq (v : Word) (z c : Bool) : withZeroAnd v z c = ⟨v, z && decide (v = 0#32), c⟩ := by
  rw [withZeroAnd, beq_eq_decide]

theorem addxOut_eq (d s : Word) (z c : Bool) : addxOut d s z c =
    ⟨BitVec.ofNat 32 (d.toNat + s.toNat + c.toNat), z && decide ((d.toNat + s.toNat + c.toNat) % 2 ^ 32 = 0),
      decide (2 ^ 32 ≤ d.toNat + s.toNat + c.toNat)⟩ := by
  have value : d + s + bitWord c = BitVec.ofNat 32 (d.toNat + s.toNat + c.toNat) := by
    rw [bitWord_eq_ofNat, BitVec.ofNat_add, BitVec.ofNat_add, BitVec.ofNat_toNat, BitVec.ofNat_toNat,
      BitVec.setWidth_eq, BitVec.setWidth_eq]
  simp only [addxOut, value, withZeroAnd_eq, ofNat_eq_zero_iff]
  rfl

theorem subxOut_eq (d s : Word) (z c : Bool) : subxOut d s z c =
    withZeroAnd (BitVec.ofInt 32 (d.toNat - s.toNat - carryIn c)) z (decide (d.toNat < s.toNat + c.toNat)) := by
  rw [subxOut, sub_eq_ofInt_toNat d s, ofInt_sub_bitWord]

/-- The long, chained Z and C that an exact signed number gives. -/
def signedOutAnd (z : Bool) (x : Int) : AluOut :=
  withZeroAnd (BitVec.ofInt 32 x) z (decide ((BitVec.ofInt 32 x).toInt ≠ x))

theorem addsxOut_eq (d s : Word) (z c : Bool) :
    addsxOut d s z c = signedOutAnd z (d.toInt + s.toInt + carryIn c) := by
  rw [addsxOut, add_eq_ofInt_toInt d s, bitWord_eq_ofInt, ← BitVec.ofInt_add, toNat_eq_carryIn, signedOverflow_eq,
    signedOutAnd]

theorem subsxOut_eq (d s : Word) (z c : Bool) :
    subsxOut d s z c = signedOutAnd z (d.toInt - s.toInt - carryIn c) := by
  rw [subsxOut, sub_eq_ofInt_toInt d s, ofInt_sub_bitWord, toNat_eq_carryIn, signedOverflow_eq, signedOutAnd]

theorem cmpsOut_eq (d s : Word) :
    cmpsOut d s = ⟨BitVec.ofInt 32 (d.toInt - s.toInt), decide (d = s), decide (d.toInt < s.toInt)⟩ := by
  rw [cmpsOut, sub_eq_ofInt_toInt, beq_eq_decide, BitVec.slt_eq_decide]

theorem cmpsxOut_eq (d s : Word) (z c : Bool) : cmpsxOut d s z c =
    withZeroAnd (BitVec.ofInt 32 (d.toInt - s.toInt - carryIn c)) z
      (decide (d.toInt < s.toInt + carryIn c)) := by
  rw [cmpsxOut, sub_eq_ofInt_toInt d s, ofInt_sub_bitWord, toNat_eq_carryIn]

/-- Settles O6, instruction by instruction. -/
theorem extendedArithmeticResults : Obligations.ExtendedArithmeticResults :=
  ⟨alu_yields exec_addx addxOut_eq,
    alu_yields exec_subx fun d s z c => (subxOut_eq d s z c).trans (withZeroAnd_eq _ _ _),
    alu_yields exec_addsx fun d s z c => (addsxOut_eq d s z c).trans (withZeroAnd_eq _ _ _),
    alu_yields exec_subsx fun d s z c => (subsxOut_eq d s z c).trans (withZeroAnd_eq _ _ _),
    alu_yields exec_cmps fun d s _ _ => cmpsOut_eq d s,
    alu_yields exec_cmpsx fun d s z c => (cmpsxOut_eq d s z c).trans (withZeroAnd_eq _ _ _)⟩

/-! ### Move and negate (R504 to R511) -/

/-- The flags of a long that is moved, negated or made positive: C is the sign of the source. -/
theorem moveOut_eq (s : Word) {v : Word} {x : Int} (h : v = BitVec.ofInt 32 x) :
    moveOut s v = withZero (BitVec.ofInt 32 x) (s.getLsbD 31) := by
  rw [moveOut, msb_word, h]

theorem neg_eq_ofInt (s : Word) : -s = BitVec.ofInt 32 (-s.toInt) := by
  rw [BitVec.ofInt_neg, BitVec.ofInt_toInt]

theorem negIf_eq (s : Word) (b : Bool) : negIf s b = BitVec.ofInt 32 (if b then -s.toInt else s.toInt) := by
  cases b
  case false => exact BitVec.ofInt_toInt.symm
  case true => exact neg_eq_ofInt s

theorem negIf_not_eq (s : Word) (b : Bool) :
    negIf s (!b) = BitVec.ofInt 32 (if b then s.toInt else -s.toInt) := by
  cases b
  case false => exact neg_eq_ofInt s
  case true => exact BitVec.ofInt_toInt.symm

/-- The absolute value, by the sign bit. -/
theorem abs_toInt (s : Word) : |s.toInt| = if s.msb then -s.toInt else s.toInt := by
  rw [BitVec.msb_eq_toInt]
  by_cases neg : s.toInt < 0
  · simp [neg, abs_of_neg]
  · simp [neg, abs_of_nonneg (not_lt.1 neg)]

theorem absWord_eq (s : Word) : absWord s = BitVec.ofInt 32 |s.toInt| := by
  rw [abs_toInt, ← negIf_eq, absWord, negIf]

theorem absneg_eq (s : Word) : negIf s (!s.msb) = BitVec.ofInt 32 (-|s.toInt|) := by
  rw [negIf_not_eq, abs_toInt, apply_ite Neg.neg, neg_neg]

/-- Settles O7, instruction by instruction. -/
theorem moveAndNegateResults : Obligations.MoveAndNegateResults :=
  ⟨alu_yields_withZero exec_mov fun _ s _ _ => moveOut_eq s BitVec.ofInt_toInt.symm,
    alu_yields_withZero exec_neg fun _ s _ _ => moveOut_eq s (neg_eq_ofInt s),
    alu_yields_withZero exec_abs fun _ s _ _ => moveOut_eq s (absWord_eq s),
    alu_yields_withZero exec_absneg fun _ s _ _ => moveOut_eq s (absneg_eq s),
    alu_yields_withZero exec_negc fun _ s _ c => moveOut_eq s (negIf_eq s c),
    alu_yields_withZero exec_negnc fun _ s _ c => moveOut_eq s (negIf_not_eq s c),
    alu_yields_withZero exec_negz fun _ s z _ => moveOut_eq s (negIf_eq s z),
    alu_yields_withZero exec_negnz fun _ s z _ => moveOut_eq s (negIf_not_eq s z)⟩

/-! ### ENC, the fields of an instruction, and counting within a limit (R472, R485 to R487, R522, R523) -/

theorem encFn_eq (s : Word) : encFn s = BitVec.ofNat 32 s.toNat.size := by
  rw [encFn]
  split
  next zero => rw [zero]; rfl
  next ne => rw [size_eq_log2_succ (fun zero => ne (BitVec.eq_of_toNat_eq zero)), Nat.add_comm]

theorem movsVal_eq (d s : Word) :
    movsVal d s = BitVec.ofNat 32 (d.toNat / 2 ^ 9 * 2 ^ 9 + s.toNat % 2 ^ 9) := by
  have number : (movsVal d s).toNat = d.toNat / 2 ^ 9 % 2 ^ 23 * 2 ^ 9 + s.toNat % 2 ^ 9 := by
    simp only [movsVal, toNat_append_eq_add, BitVec.extractLsb'_toNat, Nat.shiftRight_eq_div_pow, pow_zero,
      Nat.div_one]
  apply BitVec.eq_of_toNat_eq
  rw [number, BitVec.toNat_ofNat]
  omega

theorem movdVal_eq (d s : Word) : movdVal d s =
    BitVec.ofNat 32 (d.toNat / 2 ^ 18 * 2 ^ 18 + s.toNat % 2 ^ 9 * 2 ^ 9 + d.toNat % 2 ^ 9) := by
  have number : (movdVal d s).toNat =
      (d.toNat / 2 ^ 18 % 2 ^ 14 * 2 ^ 9 + s.toNat % 2 ^ 9) * 2 ^ 9 + d.toNat % 2 ^ 9 := by
    simp only [movdVal, toNat_append_eq_add, BitVec.extractLsb'_toNat, Nat.shiftRight_eq_div_pow, pow_zero,
      Nat.div_one]
  apply BitVec.eq_of_toNat_eq
  rw [number, BitVec.toNat_ofNat]
  omega

theorem moviVal_eq (d s : Word) :
    moviVal d s = BitVec.ofNat 32 (s.toNat % 2 ^ 9 * 2 ^ 23 + d.toNat % 2 ^ 23) := by
  have number : (moviVal d s).toNat = s.toNat % 2 ^ 9 * 2 ^ 23 + d.toNat % 2 ^ 23 := by
    simp only [moviVal, toNat_append_eq_add, BitVec.extractLsb'_toNat, Nat.shiftRight_zero]
  apply BitVec.eq_of_toNat_eq
  rw [number, BitVec.toNat_ofNat]
  omega

theorem incmodVal_eq (d s : Word) :
    incmodVal d s = if s.toNat ≤ d.toNat then 0#32 else BitVec.ofNat 32 (d.toNat + 1) := by
  rw [incmodVal, BitVec.ofNat_add, BitVec.ofNat_toNat, BitVec.setWidth_eq]

theorem decmodVal_eq (d s : Word) :
    decmodVal d s = if d = 0#32 then s else BitVec.ofNat 32 (d.toNat - 1) := by
  rw [decmodVal]
  split
  next => rfl
  next ne =>
    have pos : 1 ≤ d.toNat := Nat.one_le_iff_ne_zero.2 fun zero => ne (BitVec.eq_of_toNat_eq zero)
    rw [sub_eq_ofInt_toNat, BitVec.toNat_one (by decide), ← Int.ofNat_sub pos, BitVec.ofInt_natCast]

/-- Settles O8, instruction by instruction. -/
theorem fieldMoveEncodeAndModuloResults : Obligations.FieldMoveEncodeAndModuloResults :=
  ⟨aluZ_does exec_enc fun _ s => by rw [paramsSpec_encFn, encFn_eq],
    aluZ_does exec_movs fun d s => (movsVal_eq d s).symm,
    aluZ_does exec_movd fun d s => (movdVal_eq d s).symm,
    aluZ_does exec_movi fun d s => (moviVal_eq d s).symm,
    aluZ_does exec_incmod fun d s => (incmodVal_eq d s).symm,
    aluZ_does exec_decmod fun d s => (decmodVal_eq d s).symm⟩

end Sys2Proof.Machine
end

section
/-!
JMPRET, JMPRETD and what stands for them: JMP, CALL, RET, their delayed forms, and NOP (R563 to R567).
-/
namespace Sys2Proof.Machine

/-- D with the return address in bits 8:0, where JMPRET and JMPRETD put it (R563, R564; D13, D14). -/
def linked (delayed : Bool) (s : State) (d : Word) : Word :=
  BitVec.ofNat 32 (d.toNat / 2 ^ 9 * 2 ^ 9 + (s.cog.pcNow.toNat + returnDistance delayed) % 2 ^ 9)

theorem linked_eq_append (delayed : Bool) (s : State) (d : Word) : linked delayed s d =
    d.extractLsb' 9 23 ++ (s.cog.pcNow + (if delayed then callDReturnOffset else 1#9)) := by
  rw [returnAddress_eq]
  apply BitVec.eq_of_toNat_eq
  rw [linked, BitVec.toNat_ofNat, toNat_append_eq_add, BitVec.extractLsb'_toNat,
    Nat.shiftRight_eq_div_pow, BitVec.toNat_ofNat]
  omega

section
variable {i : Instr} {delayed : Bool} {cond : Cond} {d : Reg} {s : State} {v : Word}

/-- The whole effect of the meaning that all of them share: result, Z and branch (R563, R564). -/
theorem jmpRetWith_completes {z r : Bool} {x : Src} (h : exec i s = jmpRetWith delayed z r cond d x s)
    (hr : readyDS (z || r) cond d x s) (hv : linked delayed s (valueOf s d) = v) :
    Completes i d (srcReg x)
      { resultEffect z false r (addrOf s d) v (decide (v = 0#32)) false with
        branch := some (delayed, BitVec.ofNat 9 (sourceOf s x).toNat) } s := by
  subst hv
  refine ⟨_, ?_, did_main (benign_id d (srcReg x) s.cog) r z _ false false true delayed (addrOf s d) _ _⟩
  rw [h, jmpRetWith, runDS_ready hr, onCog, State.setCog_cog, State.setCog_setCog, extractLsb'_zero,
    linked_eq_append, ← beq_eq_decide]
  rfl

/-- Without result and Z it is a jump to S (R566). -/
theorem jump_completes {x : Src} (h : exec i s = jmpRetWith delayed false false cond noReg x s)
    (hr : readyDS false cond noReg x s) :
    Completes i noReg (srcReg x) { branch := some (delayed, BitVec.ofNat 9 (sourceOf s x).toNat) } s :=
  jmpRetWith_completes h hr rfl

theorem sourceOf_imm_low (s : State) (n : BitVec 9) : BitVec.ofNat 9 (sourceOf s (.imm n)).toNat = n := by
  rw [sourceOf_imm_toNat, BitVec.ofNat_toNat, BitVec.setWidth_eq]

/-- An immediate S is no INDx reference and reads no QUAD (R131, R775). -/
theorem readyDS_imm {reads : Bool} (n : BitVec 9) (hr : readyD reads cond d s) :
    readyDS reads cond d (.imm n) s := by
  obtain ⟨executed, fresh⟩ := hr
  exact ⟨by rwa [Src.isInd, Bool.or_false], fresh, rfl⟩

/-- CALL and CALLD store the return address and jump to the label (R567). -/
theorem call_completes {target : RegAddr} (h : exec i s = jmpRetWith delayed false true cond d (.imm target) s)
    (hr : readyD true cond d s) (hv : linked delayed s (valueOf s d) = v) :
    Completes i d noReg { write := some (addrOf s d, v), branch := some (delayed, target) } s := by
  have done := jmpRetWith_completes h (readyDS_imm target hr) hv
  rw [sourceOf_imm_low] at done
  exact done

/-- RET and RETD jump to their S field, 0 until a CALL changes it (R567). -/
theorem return_completes (h : exec i s = jmpRetWith delayed false false cond noReg (.imm 0#9) s)
    (hr : readyPlain cond s) : Completes i noReg noReg { branch := some (delayed, 0#9) } s := by
  have done := jump_completes h (readyDS_imm (reads := false) 0#9 ⟨hr, rfl⟩)
  rw [sourceOf_imm_low] at done
  exact done

end

/-- Settles O34: all but NOP are `jmpRetWith`, with or without result and with S or a label. -/
theorem jumpAndReturnAddressResults : Obligations.JumpAndReturnAddressResults :=
  ⟨fun o s hr => jmpRetWith_completes (exec_jmpret o s) hr rfl,
    fun o s hr => jmpRetWith_completes (exec_jmpretd o s) hr rfl,
    fun o s hr => jump_completes (exec_jmp o s) hr, fun o s hr => jump_completes (exec_jmpd o s) hr,
    fun o s hr => call_completes (exec_call o s) hr rfl, fun o s hr => call_completes (exec_calld o s) hr rfl,
    fun o s hr => return_completes (exec_ret o s) hr, fun o s hr => return_completes (exec_retd o s) hr,
    fun s => ⟨_, exec_nop s, did_skipSlot s⟩⟩

end Sys2Proof.Machine
end

section
/-!
Waits that are over (R595 to R598, R633, R634, R659, R686, R706), and SNDSER and RCVSER with WC, which never
wait.
-/
namespace Sys2Proof.Machine

/-! ### The operands of the first try (R130, R595) -/

section
variable (s : State) (dv sv : Word) (half : Option Bool)

theorem heldOr_d : (heldOr s dv sv half).d = (s.cog.held.map (·.d)).getD dv := by
  rw [heldOr]
  cases s.cog.held <;> rfl

theorem heldOr_s : (heldOr s dv sv half).s = (s.cog.held.map (·.s)).getD sv := by
  rw [heldOr]
  cases s.cog.held <;> rfl

end

/-! ### Instructions with operands -/

/-- An instruction that only moves on. -/
theorem did_nothing (d x : Reg) (s : State) : Did {} d x s (s.setCog (enter d x s.cog)) :=
  did_other (benign_id d x s.cog)

/-- CNT has 64 bits, so its high half needs no reduction (R596). -/
theorem halfOf_cnt (high : Bool) (cnt : BitVec 64) : halfOf high cnt.toNat =
    if high then cnt.toNat / 2 ^ 32 else cnt.toNat % 2 ^ 32 := by
  rw [halfOf, Nat.mod_eq_of_lt cnt.isLt]

theorem waitcnt_completes {o : WaitCOps} {s : State} (hr : readyDS true o.cond o.d o.s s) {dv sv : Word}
    (hd : (heldOr s (valueOf s o.d) (sourceOf s o.s) (some o.high)).d = dv)
    (hs : (heldOr s (valueOf s o.d) (sourceOf s o.s) (some o.high)).s = sv)
    (h : halfOf o.high s.cnt.toNat = dv.toNat) :
    Completes (.waitcnt o) o.d (srcReg o.s)
      { write := if o.r then some (addrOf s o.d, dv + sv) else none } s := by
  refine ⟨_, ?_, did_result (benign_id o.d (srcReg o.s) s.cog) o.r false false _ _ false false⟩
  rw [exec_waitcnt, execWaitcnt, runDS_ready hr]
  dsimp only
  rw [hd, hs, if_pos ((clocksUntil_eq_zero_iff _ _ _).2 h), onCog, State.setCog_cog, State.setCog_setCog]
  rfl

/-- WAITPEQ and WAITPNE, whose test gives the right answer (R597, R598). -/
theorem waitPins_completes {mk : DSOps → Instr} {equal : Bool}
    (h : ∀ o s, exec (mk o) s = waitPins equal o s) {o : DSOps} {s : State}
    (hr : readyDS true o.cond o.d o.s s) {x : Held} (hx : heldOr s (valueOf s o.d) (sourceOf s o.s) = x)
    (test : pinsUnder s x.s = x.d ↔ equal = true) : Completes (mk o) o.d (srcReg o.s) {} s := by
  subst hx
  refine ⟨_, ?_, did_nothing o.d (srcReg o.s) s⟩
  rw [h, waitPins, runDS_ready hr]
  refine if_pos ?_
  rwa [Bool.eq_iff_iff, beq_iff_eq]

theorem waitvid_completes {o : DSOps} {s : State} (hr : readyDS true o.cond o.d o.s s) {dv sv : Word}
    (hd : (heldOr s (valueOf s o.d) (sourceOf s o.s)).d = dv)
    (hs : (heldOr s (valueOf s o.d) (sourceOf s o.s)).s = sv) (h : s.inputs.vidReady = true) :
    Completes (.waitvid o) o.d (srcReg o.s)
      { cog := fun c => { c with video := { c.video with handD := dv, handS := sv, inUse := true } } } s := by
  refine ⟨_, ?_, did_other (by constructor <;> rfl)⟩
  rw [exec_waitvid, execWaitvid, runDS_ready hr, if_pos h, onCog, State.setCog_cog, State.setCog_setCog, hd, hs]

/-! ### The serial port (R633, R634) -/

/-- A try with WC that finds the port not ready only clears C. -/
theorem did_failed_try (d : Reg) (s : State) :
    Did { c := some false } d noReg s (s.setCog (writeC true false (enter d noReg s.cog))) :=
  did_result (benign_id d noReg s.cog) false false true 0#9 0#32 false false

theorem sndser_sends {o : DCOps} {s : State} (hr : readyD true o.cond o.d s) {dv : Word}
    (hd : (heldOr s (valueOf s o.d) 0#32).d = dv) (h : s.inputs.serTxReady = true) :
    Completes (.sndser o) o.d noReg
      { c := if o.c then some true else none, cog := fun c => { c with serTx := dv } } s := by
  have benign : Benign (fun c => { c with serTx := dv }) o.d noReg s.cog := by constructor <;> rfl
  refine ⟨_, ?_, did_result benign false false o.c 0#9 0#32 false true⟩
  rw [exec_sndser, execSndser, runD_ready hr, if_pos h, onCog, State.setCog_cog, State.setCog_setCog, hd]
  rfl

theorem sndser_fails {o : DCOps} {s : State} (hr : readyD true o.cond o.d s)
    (h : s.inputs.serTxReady = false) (hc : o.c = true) :
    Completes (.sndser o) o.d noReg { c := some false } s := by
  refine ⟨_, ?_, did_failed_try o.d s⟩
  rw [exec_sndser, execSndser, runD_ready hr, h, hc, if_neg Bool.false_ne_true, if_pos rfl, onCog,
    State.setCog_cog, State.setCog_setCog]

theorem rcvser_receives {o : DZCOps} {s : State} (hr : readyD false o.cond o.d s)
    (h : s.inputs.serRxReady = true) :
    Completes (.rcvser o) o.d noReg
      (resultEffect o.z o.c true (addrOf s o.d) s.inputs.serRxLong
        (decide (s.inputs.serRxLong = 0#32)) true) s := by
  refine ⟨_, ?_, did_result (benign_id o.d noReg s.cog) true o.z o.c _ _ _ true⟩
  rw [exec_rcvser, execRcvser, runD_ready hr, if_pos h, onCog, State.setCog_cog, State.setCog_setCog, deliver,
    beq_eq_decide]
  rfl

theorem rcvser_fails {o : DZCOps} {s : State} (hr : readyD false o.cond o.d s)
    (h : s.inputs.serRxReady = false) (hc : o.c = true) :
    Completes (.rcvser o) o.d noReg { c := some false } s := by
  refine ⟨_, ?_, did_failed_try o.d s⟩
  rw [exec_rcvser, execRcvser, runD_ready hr, h, hc, if_neg Bool.false_ne_true, if_pos rfl, onCog,
    State.setCog_cog, State.setCog_setCog]

/-! ### The counters (R686, R706) -/

theorem synctra_completes {o : IgnOps} {s : State} (hr : readyPlain o.cond s)
    (running : s.cog.ctra.running = true) (wraps : s.inputs.wrapa = true) :
    Completes (.synctra o) noReg noReg {} s := by
  refine ⟨_, ?_, did_nothing noReg noReg s⟩
  rw [exec_synctra, execSynctra, runPlain_ready hr, running, wraps]
  rfl

theorem synctrb_completes {o : IgnOps} {s : State} (hr : readyPlain o.cond s)
    (running : s.cog.ctrb.running = true) (wraps : s.inputs.wrapb = true) :
    Completes (.synctrb o) noReg noReg {} s := by
  refine ⟨_, ?_, did_nothing noReg noReg s⟩
  rw [exec_synctrb, execSynctrb, runPlain_ready hr, running, wraps]
  rfl

/-- Settles O36, instruction by instruction, with what the COG holds for the operands. -/
theorem waitsCompleteWhenTheyMay : Obligations.WaitsCompleteWhenTheyMay := by
  refine ⟨fun o s hr reached => ?_, fun o s hr => ⟨fun equal => ?_, fun differ => ?_, ?_⟩,
    fun o s hr => ⟨sndser_sends hr (heldOr_d _ _ _ _), sndser_fails hr⟩,
    fun o s hr => ⟨rcvser_receives hr, rcvser_fails hr⟩,
    fun o s hr => ⟨synctra_completes hr, synctrb_completes hr⟩⟩
  · exact waitcnt_completes hr (heldOr_d _ _ _ _) (heldOr_s _ _ _ _) ((halfOf_cnt _ _).trans reached)
  · refine waitPins_completes exec_waitpeq hr rfl (iff_of_true ?_ rfl)
    rw [heldOr_d, heldOr_s]
    exact equal
  · refine waitPins_completes exec_waitpne hr rfl (iff_of_false ?_ Bool.false_ne_true)
    rw [heldOr_d, heldOr_s]
    exact differ
  · exact waitvid_completes hr (heldOr_d _ _ _ _) (heldOr_s _ _ _ _)

end Sys2Proof.Machine
end

section
/-!
Pins and ports: GETP to SETPNZ, SETPORx, SETPORT and CFGPINS (R611 to R629, R650, R651).
-/
namespace Sys2Proof.Machine

/-! ### One pin -/

theorem pinOf_toNat (v : Word) : (pinOf v).toNat = v.toNat % 128 := by
  rw [pinOf, BitVec.extractLsb'_toNat, Nat.shiftRight_zero]

theorem pinMask_bit (p : BitVec 7) {i : Nat} (hi : i < 128) :
    (1#128 <<< p.toNat)[i] = decide (i = p.toNat) := by
  rw [BitVec.getElem_shiftLeft, BitVec.getElem_one]
  by_cases below : i < p.toNat
  · simp [below, below.ne]
  · simp only [below, decide_false, Bool.not_false, Bool.true_and, decide_eq_decide]
    omega

/-- `putPin` changes the bit of its pin and no other. -/
theorem putPin_bit (x : BitVec 128) (p : BitVec 7) (b : Bool) {i : Nat} (hi : i < 128) :
    (putPin x p b)[i] = if i = p.toNat then b else x[i] := by
  cases b
  · simp only [putPin, Bool.false_eq_true, if_false, BitVec.getElem_and, BitVec.getElem_not, pinMask_bit]
    by_cases here : i = p.toNat <;> simp [here]
  · simp only [putPin, if_true, BitVec.getElem_or, pinMask_bit]
    by_cases here : i = p.toNat <;> simp [here]

theorem putPin_pinOf (x : BitVec 128) (v : Word) (b : Bool) : putPin x (pinOf v) b =
    BitVec.ofFnLE fun i : Fin 128 => if i.val = v.toNat % 128 then b else x.getLsbD i := by
  ext i hi
  rw [putPin_bit, BitVec.getElem_ofFnLE, pinOf_toNat]
  rfl

theorem offp_does : DnSets .offp 7 fun v c =>
    { c with dir := BitVec.ofFnLE fun i : Fin 128 =>
        if i.val = v.toNat % 128 then !c.dir.getLsbD (v.toNat % 128) else c.dir.getLsbD i } :=
  runDn_does exec_offp (fun v c => by rw [putPin_pinOf, pinOf_toNat]) fun v d s => by constructor <;> rfl

/-- An instruction on one output latch gives it what `g` says of the state and the latch, given that its meaning `f`
finds the same after the slot's own changes (R619). -/
theorem setOut_does {mk : DnOps → Instr} {f : Cog → BitVec 7 → Bool}
    (h : ∀ o s, exec (mk o) s = setOut f o s) (g : State → Bool → Bool)
    (hg : ∀ d (s : State) p, f (enter d noReg s.cog) p = g s (s.cog.out.getLsbD p.toNat)) :
    DnDoes mk 7 fun s v => { cog := fun c =>
      { c with out := BitVec.ofFnLE fun i : Fin 128 =>
          if i.val = v.toNat % 128 then g s (c.out.getLsbD (v.toNat % 128)) else c.out.getLsbD i } } := by
  refine dn_does (fun o s hr => ?_) fun v d s => by constructor <;> rfl
  rw [h, setOut, runDn_ready hr, onCog, State.setCog_cog, State.setCog_setCog, hg, putPin_pinOf, pinOf_toNat]
  rfl

theorem pinLevel_pinOf (s : State) (v : Word) :
    pinLevel s (pinOf v) = s.inputs.pinIn.getLsbD (v.toNat % 128) := by
  rw [pinLevel, pinOf_toNat]

/-- GETP and GETPN give Z and C functions `zf` and `cf` of the level of the pin (R620, R621). -/
theorem readPin_completes {mk : DnZCOps → Instr} (zf cf : Bool → Bool)
    (h : ∀ o s, exec (mk o) s = runDn 7 o.cond o.d s fun v s1 =>
      onCog (fun c => writeC o.c (cf (pinLevel s1 (pinOf v))) (writeZ o.z (zf (pinLevel s1 (pinOf v))) c)) s1)
    {o : DnZCOps} {s : State} (hr : readyDn o.cond o.d s) :
    let level := s.inputs.pinIn.getLsbD ((numberOf 7 s o.d).toNat % 128)
    Completes (mk o) (dimmReg o.d) noReg (resultEffect o.z o.c false 0#9 0#32 (zf level) (cf level)) s := by
  refine ⟨_, ?_, did_result (benign_id (dimmReg o.d) noReg s.cog) false o.z o.c 0#9 0#32 _ _⟩
  rw [h, runDn_ready hr, onCog, State.setCog_cog, State.setCog_setCog, pinLevel_pinOf]
  rfl

/-! ### Ports -/

theorem setPor_does {mk : DnOps → Instr} {k : BitVec 2} (h : ∀ o s, exec (mk o) s = setPor k o s) :
    DnSets mk 2 fun v c => { c with por := c.por.wr k (BitVec.ofNat 2 v.toNat) } :=
  runDn_does h (fun v c => by rw [extractLsb'_zero]) fun v d s => by constructor <;> rfl

theorem setport_does : DnSets .setport 2 fun v c => { c with portsel := BitVec.ofNat 2 v.toNat } :=
  runDn_does exec_setport (fun v c => by rw [extractLsb'_zero]) fun v d s => by constructor <;> rfl

/-- A change of the pin configurations beside what an instruction does to its COG (R651). -/
theorem Did.withPinCfg {e : Effect} {d x : Reg} {s t : State} (h : Did e d x s t) (he : e.chip = id)
    (v : Bank 7 (BitVec 13)) :
    Did { e with chip := fun u => { u with pinCfg := v } } d x s { t with pinCfg := v } where
  mem := h.mem
  locks := h.locks.trans (by rw [he]; rfl)
  clk := h.clk.trans (by rw [he]; rfl)
  cnt := h.cnt
  pinCfg := rfl
  inputs := h.inputs
  turn := h.turn
  tick := h.tick
  others n hn := (h.others n hn).trans (by rw [he]; rfl)
  regs := h.regs
  flow := ⟨h.flow.others, h.flow.flagZ, h.flow.flagC, h.flow.pc, h.flow.flush, h.flow.delayed, h.flow.rep⟩
  inda := h.inda
  indb := h.indb
  rest := h.rest

theorem configurePins_rd (port : BitVec 2) (mask : Word) (v : BitVec 13) (cfg : Bank 7 (BitVec 13)) (p : BitVec 7) :
    (configurePins port mask v cfg).rd p =
      if p.toNat / 32 = port.toNat ∧ mask.getLsbD (p.toNat % 32) = true then v else cfg.rd p := by
  simp [configurePins, Bank.rd]

theorem cfgpins_completes {o : DSOps} {s : State} (hr : readyDS true o.cond o.d o.s s) :
    Completes (.cfgpins o) o.d (srcReg o.s)
      { chip := fun u =>
          { u with pinCfg :=
              configurePins s.cog.portsel (valueOf s o.d) (BitVec.ofNat 13 (sourceOf s o.s).toNat) s.pinCfg } } s := by
  refine ⟨_, ?_, (did_other (benign_id o.d (srcReg o.s) s.cog)).withPinCfg rfl _⟩
  rw [exec_cfgpins, execCfgpins, runDS_ready hr, extractLsb'_zero, State.setCog_cog]
  rfl

/-- Settles O38, instruction by instruction; for CFGPINS pin by pin. -/
theorem pinAndPortInstructionResults : Obligations.PinAndPortInstructionResults :=
  ⟨offp_does, setOut_does exec_notp (fun _ b => !b) fun _ _ _ => rfl,
    setOut_does exec_clrp (fun _ _ => false) fun _ _ _ => rfl,
    setOut_does exec_setp (fun _ _ => true) fun _ _ _ => rfl,
    setOut_does exec_setpc (fun s _ => s.cog.flagC) fun d s _ => enter_flagC d noReg s.cog,
    setOut_does exec_setpnc (fun s _ => !s.cog.flagC) fun d s _ => congrArg not (enter_flagC d noReg s.cog),
    setOut_does exec_setpz (fun s _ => s.cog.flagZ) fun d s _ => enter_flagZ d noReg s.cog,
    setOut_does exec_setpnz (fun s _ => !s.cog.flagZ) fun d s _ => congrArg not (enter_flagZ d noReg s.cog),
    fun _ _ hr => ⟨readPin_completes (mk := .getp) not id exec_getp hr,
      readPin_completes (mk := .getpn) id not exec_getpn hr⟩,
    setPor_does exec_setpora, setPor_does exec_setporb, setPor_does exec_setporc, setPor_does exec_setpord,
    setport_does, fun _ _ hr => ⟨_, cfgpins_completes hr, configurePins_rd _ _ _ _⟩⟩

end Sys2Proof.Machine
end

section
/-!
The device registers of a COG: serial port, exchange, video, texture, DACs and counters (R610, R632, R641, R655 to R658,
R660 to R687, R700 to R707). A family of instructions that replace one group of registers is settled once.
-/
namespace Sys2Proof.Machine

/-! ### Serial port, exchange, video, texture and DACs -/

theorem setser_does : DnSets .setser 6 fun v c => { c with ser := v } :=
  devWrite_does exec_setser (fun _ _ => rfl) fun v d s => by constructor <;> rfl

theorem setxch_does : DnSets .setxch 9 fun v c => { c with xch := v } :=
  devWrite_does exec_setxch (fun _ _ => rfl) fun v d s => by constructor <;> rfl

/-- SETVIDx changes the video registers alone (R655 to R658). -/
theorem setVideo_does {mk : DnOps → Instr} (f : Word → Video → Video)
    (h : ∀ o s, exec (mk o) s = devWrite 9 (fun v c => { c with video := f v c.video }) o s) :
    DnSets mk 9 fun v c => { c with video := f v c.video } :=
  devWrite_does h (fun _ _ => rfl) fun v d s => by constructor <;> rfl

/-- SETPIXx changes the texture registers alone (R671 to R678). -/
theorem setPixel_does {mk : DnOps → Instr} (f : Word → Pixel → Pixel)
    (h : ∀ o s, exec (mk o) s = devWrite 9 (fun v c => { c with pixel := f v c.pixel }) o s) :
    DnSets mk 9 fun v c => { c with pixel := f v c.pixel } :=
  devWrite_does h (fun _ _ => rfl) fun v d s => by constructor <;> rfl

/-- A field of a long, as arithmetic gives it. -/
theorem extractLsb'_eq_div (v : Word) (start len : Nat) :
    v.extractLsb' start len = BitVec.ofNat len (v.toNat / 2 ^ start) := by
  apply BitVec.eq_of_toNat_eq
  rw [BitVec.extractLsb'_toNat, Nat.shiftRight_eq_div_pow, BitVec.toNat_ofNat]

/-- Bits 2k+1:2k, which are those of DAC `k` in CFGDACS (R669, D47). -/
theorem extractLsb'_two (v : Word) (k : Nat) : v.extractLsb' (2 * k) 2 = BitVec.ofNat 2 (v.toNat / 4 ^ k) := by
  rw [extractLsb'_eq_div, pow_mul]
  rfl

/-- CFGDAC0 to CFGDAC3 (R661 to R664). -/
theorem configureDac_does {mk : DnOps → Instr} (k : BitVec 2)
    (h : ∀ o s, exec (mk o) s = devWrite 2 (fun v c => { c with cfgdac := c.cfgdac.wr k (v.extractLsb' 0 2) }) o s) :
    DnSets mk 2 fun v c => { c with cfgdac := c.cfgdac.wr k (BitVec.ofNat 2 (v.toNat / 4 ^ 0)) } :=
  devWrite_does h (fun v _ => by rw [← extractLsb'_two]) fun v d s => by constructor <;> rfl

theorem cfgdacs_does : DnSets .cfgdacs 8 fun v c =>
    { c with cfgdac := #v[BitVec.ofNat 2 (v.toNat / 4 ^ 0), BitVec.ofNat 2 (v.toNat / 4 ^ 1),
        BitVec.ofNat 2 (v.toNat / 4 ^ 2), BitVec.ofNat 2 (v.toNat / 4 ^ 3)] } :=
  devWrite_does exec_cfgdacs (fun v _ => by simp only [← extractLsb'_two]) fun v d s => by constructor <;> rfl

/-- SETDAC0 to SETDAC3 (R665 to R668). -/
theorem setDac_does {mk : DnOps → Instr} (k : BitVec 2)
    (h : ∀ o s, exec (mk o) s =
      devWrite 9 (fun v c => { c with dacval := c.dacval.wr k (v.extractLsb' 14 18) }) o s) :
    DnSets mk 9 fun v c => { c with dacval := c.dacval.wr k (BitVec.ofNat 18 (v.toNat / 2 ^ 14)) } :=
  devWrite_does h (fun v _ => by rw [extractLsb'_eq_div]) fun v d s => by constructor <;> rfl

theorem setdacs_does : DnSets .setdacs 9 fun v c =>
    { c with dacval := #v[BitVec.ofNat 18 (v.toNat / 2 ^ 14), BitVec.ofNat 18 (v.toNat / 2 ^ 14),
        BitVec.ofNat 18 (v.toNat / 2 ^ 14), BitVec.ofNat 18 (v.toNat / 2 ^ 14)] } :=
  devWrite_does exec_setdacs (fun v _ => by rw [extractLsb'_eq_div]; rfl) fun v d s => by constructor <;> rfl

/-- Settles O39, by the group of registers that an instruction changes. -/
theorem deviceRegisterWrites : Obligations.DeviceRegisterWrites :=
  ⟨setser_does, setxch_does,
    setVideo_does (fun v r => { r with vid := v, inUse := true }) exec_setvid,
    setVideo_does (fun v r => { r with vidy := v }) exec_setvidy,
    setVideo_does (fun v r => { r with vidi := v }) exec_setvidi,
    setVideo_does (fun v r => { r with vidq := v }) exec_setvidq,
    setPixel_does (fun v r => { r with pix := v }) exec_setpix,
    setPixel_does (fun v r => { r with pixu := v }) exec_setpixu,
    setPixel_does (fun v r => { r with pixv := v }) exec_setpixv,
    setPixel_does (fun v r => { r with pixz := v }) exec_setpixz,
    setPixel_does (fun v r => { r with pixr := v }) exec_setpixr,
    setPixel_does (fun v r => { r with pixg := v }) exec_setpixg,
    setPixel_does (fun v r => { r with pixb := v }) exec_setpixb,
    setPixel_does (fun v r => { r with pixa := v }) exec_setpixa,
    configureDac_does 0#2 exec_cfgdac0, configureDac_does 1#2 exec_cfgdac1, configureDac_does 2#2 exec_cfgdac2,
    configureDac_does 3#2 exec_cfgdac3, cfgdacs_does,
    setDac_does 0#2 exec_setdac0, setDac_does 1#2 exec_setdac1, setDac_does 2#2 exec_setdac2,
    setDac_does 3#2 exec_setdac3, setdacs_does⟩

/-! ### The counters -/

/-- The COG with counter A or B changed by `f`. -/
def Cog.changeCounter (x : Ind) (f : Counter → Counter) (c : Cog) : Cog :=
  match x with
  | .a => { c with ctra := f c.ctra }
  | .b => { c with ctrb := f c.ctrb }

theorem benign_changeCounter (x : Ind) (f : Counter → Counter) (d y : Reg) (c : Cog) :
    Benign (Cog.changeCounter x f) d y c := by
  cases x
  · constructor <;> rfl
  · constructor <;> rfl

/-- SETCTRx: the mode, and the counter runs (R680, R688). -/
def Counter.start (v : Word) (r : Counter) : Counter := { r with mode := v, running := true }

/-- SETWAVx (R681). -/
def Counter.setWave (v : Word) (r : Counter) : Counter := { r with wave := v }

/-- SETFRQx (R682). -/
def Counter.setFrq (v : Word) (r : Counter) : Counter := { r with frq := v }

/-- An instruction that changes one counter by `f` (R610). -/
theorem setCounter_does {mk : DnOps → Instr} (x : Ind) (f : Word → Counter → Counter)
    (h : ∀ o s, exec (mk o) s = devWrite 9 (fun v => Cog.changeCounter x (f v)) o s) :
    DnSets mk 9 fun v => Cog.changeCounter x (f v) :=
  devWrite_does h (fun _ _ => rfl) fun v d s => benign_changeCounter x (f v) d noReg s.cog

/-- An instruction on the phase alone: the model computes it by `f`, and `g` is the same function (R683 to R685). -/
theorem setPhase_does {mk : DnOps → Instr} (x : Ind) {g : Word → Word → Word} (f : Word → Word → Word)
    (h : ∀ o s, exec (mk o) s =
      devWrite 9 (fun v => Cog.changeCounter x fun r => { r with phs := f r.phs v }) o s)
    (hg : ∀ p v, g p v = f p v) :
    DnSets mk 9 fun v => Cog.changeCounter x fun r => { r with phs := g r.phs v } := by
  have same : g = f := by funext p v; exact hg p v
  exact same ▸ setCounter_does x (fun v r => { r with phs := f r.phs v }) h

theorem ofNat_add_toNat (p v : Word) : BitVec.ofNat 32 (p.toNat + v.toNat) = p + v :=
  BitVec.eq_of_toNat_eq (by rw [BitVec.toNat_ofNat, BitVec.toNat_add])

/-- CAPCTRx leaves some phase (R687, U21). -/
theorem captureCounter_completes {i : Instr} {cond : Cond} {s : State} (x : Ind)
    (h : exec i s = runPlain cond s fun s1 =>
      onCog (Cog.changeCounter x fun r => { r with phs := Config.freeWord s1.tick }) s1)
    (hr : readyPlain cond s) :
    Completes i noReg noReg
      { cog := Cog.changeCounter x fun r => { r with phs := Config.freeWord s.tick } } s := by
  refine ⟨_, ?_, did_other (benign_changeCounter x _ noReg noReg s.cog)⟩
  rw [h, runPlain_ready hr, onCog, State.setCog_cog, State.setCog_setCog, State.setCog_tick]

/-- Settles O40, by the counter and the register of it that an instruction changes. -/
theorem counterModuleWrites : Obligations.CounterModuleWrites :=
  ⟨setCounter_does .a Counter.start exec_setctra, setCounter_does .b Counter.start exec_setctrb,
    setCounter_does .a Counter.setWave exec_setwava, setCounter_does .b Counter.setWave exec_setwavb,
    setCounter_does .a Counter.setFrq exec_setfrqa, setCounter_does .b Counter.setFrq exec_setfrqb,
    setPhase_does .a (fun _ v => v) exec_setphsa fun _ _ => rfl,
    setPhase_does .b (fun _ v => v) exec_setphsb fun _ _ => rfl,
    setPhase_does .a (· + ·) exec_addphsa ofNat_add_toNat, setPhase_does .b (· + ·) exec_addphsb ofNat_add_toNat,
    setPhase_does .a (· - ·) exec_subphsa fun p v => (sub_eq_ofInt_toNat p v).symm,
    setPhase_does .b (· - ·) exec_subphsb fun p v => (sub_eq_ofInt_toNat p v).symm,
    fun o s hr => ⟨⟨_, captureCounter_completes .a (exec_capctra o s) hr⟩,
      ⟨_, captureCounter_completes .b (exec_capctrb o s) hr⟩⟩⟩

end Sys2Proof.Machine
end

section
/-!
Words of 95_test_vectors.md, decoded.
-/
namespace Sys2Proof.Machine

/-- Settles O60: the decoder runs on each word. -/
theorem decodeReadsTheSpecsWords : Obligations.DecodeReadsTheSpecsWords :=
  ⟨rfl, rfl, rfl, rfl, rfl, rfl, rfl, rfl, rfl, rfl, rfl, rfl, rfl, rfl, rfl, rfl⟩

end Sys2Proof.Machine
end
